-- ==== Sys2Proof/Word.lean ====
section
/-! DEFINITION. The bit-vector widths of the block and the finite name sets of its operands (10_state.md, 30_encoding.md). -/

namespace Sys2Proof

/-- A byte: the width of a register, of a memory cell and of an opcode (R5). -/
abbrev Byte := BitVec 8

/-- A 16-bit value: an address, a pair view, `SP` or `PC` (R5). -/
abbrev Word := BitVec 16

/-- The seven 8-bit registers (R20). -/
inductive Reg where
  | b | c | d | e | h | l | a
  deriving DecidableEq, Repr

/-- The register pairs, which are computed views and no state (R22). -/
inductive RegPair where
  | bc | de | hl
  deriving DecidableEq, Repr

/-- What the field `rp` names in LXI, INX, DCX and DAD: a pair or `SP` (R83). -/
inductive Pair16 where
  | bc | de | hl | sp
  deriving DecidableEq, Repr

/-- The eight conditions of Jcc, Ccc and Rcc (R84, R260). -/
inductive Cond where
  | nz | z | nc | c | po | pe | p | m
  deriving DecidableEq, Repr

/-- The eight operations of the field `alu` (R85). -/
inductive AluOp where
  | add | adc | sub | sbb | ana | xra | ora | cmp
  deriving DecidableEq, Repr

/-- The second operand of an ALU instruction: a register, the byte at `HL`, or the immediate byte (R82, R86). -/
inductive Src where
  | reg (r : Reg)
  | mem
  | imm (v : Byte)
  deriving DecidableEq, Repr

/-- The names of the five flags (R27). -/
inductive FlagName where
  | z | s | p | cy | ac
  deriving DecidableEq, Repr

end Sys2Proof
end

