-- ==== Sys2Proof/Config.lean ====
section
/-! DEFINITION. What an implementation or a run's outside world fixes: the set IMPLEMENTED and the draw IN_VALUE. -/

namespace Sys2Proof

/-- The twelve undefined opcode values (R90). -/
def Config.undefinedOpcodes : List Byte :=
  [0x08, 0x10, 0x18, 0x20, 0x28, 0x30, 0x38, 0xCB, 0xD9, 0xDD, 0xED, 0xFD]

/-- The parameter `IMPLEMENTED` at the spec's value, the 244 documented opcodes (R7, D2; log 5). -/
def Config.implemented (op : Byte) : Bool :=
  !(Config.undefinedOpcodes.contains op)

/-- The draw `IN_VALUE`: the byte the `n`-th execution of IN in a run reads from `port`.
A free value: nothing constrains it (R8, R354, D8; log 3). -/
opaque Config.inValue (n : Nat) (port : Byte) : Byte

/-- The size of the address space in bytes, 65,536 (R5, R50). -/
def Config.memorySize : Nat := 0x10000

end Sys2Proof
end

