-- ==== Sys2Proof/Machine/State.lean ====
section
/-! DEFINITION. The state of the machine (10_state.md), the reasons a step can stop, and the state after reset. -/

namespace Sys2Proof.Machine

/-- The five flags, each set or clear (R27). -/
structure Flags where
  /-- Zero: the result is 0x00 (R28). -/
  z : Bool
  /-- Sign: bit 7 of the result (R29). -/
  s : Bool
  /-- Parity: the result has an even number of 1 bits (R30). -/
  p : Bool
  /-- Carry (R31). -/
  cy : Bool
  /-- Auxiliary carry (R32). -/
  ac : Bool
  deriving DecidableEq, Repr

/-- The run-control state (R35). -/
inductive Status where
  | running
  | boundary
  | halted
  | fault (addr : Word) (opcode : Byte)
  deriving DecidableEq, Repr

/-- Memory: the bytes that are not 0x00, with their addresses strictly rising (`Memory.wf`); an unlisted address reads as
0x00, what the spec gives every byte at reset (R50, R51). -/
abbrev Memory := List Host.Cell

/-- The reasons a step can stop with a fault: the one exception kind of the block (R370, D17). -/
inductive Fault where
  /-- Raised by `step` alone, when the run has already ended with status `Fault(address, opcode)`: the exception is
  surfaced to the caller (R114, R376). Safe: the block takes no further step either. -/
  | unimplementedOpcode (address : Word) (opcode : Byte)
  deriving DecidableEq, Repr

/-- The reasons for having no step to give. -/
inductive Refusal where
  /-- Raised by `exec` for an instruction that has no meaning yet. Safe: the machine stops. No arm raises it now. -/
  | notModelled (mnemonic : String)
  /-- Raised by `step` when the run has ended at the image boundary: the host must not ask for a step then (R35, R403).
  Safe: the block takes no further step either. -/
  | stepAfterBoundary
  /-- Raised by `step` when the run has ended with HLT: the host must not ask for a step then (R35, R384, R403).
  Safe: the block takes no further step either. -/
  | stepAfterHalt
  /-- Raised by `launch` when `ENTRY + LEN > 0x10000` (R405). Safe: the spec refuses that launch. -/
  | imageDoesNotFit
  deriving DecidableEq, Repr

/-- The state of the machine: what the spec gives the block, and two fields of the model's own, `imageEnd` and
`inDraws`. -/
structure State where
  /-- The accumulator (R20). -/
  a : Byte
  b : Byte
  c : Byte
  d : Byte
  e : Byte
  h : Byte
  l : Byte
  /-- The stack pointer (R24). -/
  sp : Word
  /-- The program counter: while an instruction executes, the address of its opcode byte (R25). -/
  pc : Word
  flags : Flags
  /-- The interrupt-enable flag INTE (R34). -/
  inte : Bool
  status : Status
  mem : Memory
  /-- The run parameter `IMAGE_END`, which the driving loop compares `PC` with (R6, R111). The model's field: log 2. -/
  imageEnd : Nat
  /-- How many `IN_VALUE` draws the run has taken (R8). The model's field: log 3. -/
  inDraws : Nat
  deriving DecidableEq, Repr

/-- What a step, an instruction or a launch answers. -/
abbrev Result := Host.Outcome State Fault Refusal

/-- All five flags clear. -/
def Flags.clear : Flags := { z := false, s := false, p := false, cy := false, ac := false }

/-- The state as constructed for a run, every field zero and memory zeroed, before a launch loads an image (R400; log 1).
It is also the state after launching the empty image at `ENTRY = 0`. -/
def State.reset : State :=
  { a := 0, b := 0, c := 0, d := 0, e := 0, h := 0, l := 0, sp := 0, pc := 0, flags := Flags.clear, inte := false,
    status := .running, mem := [], imageEnd := 0, inDraws := 0 }

end Sys2Proof.Machine
end

