-- ==== Sys2Proof/Machine/Memory.lean ====
section
/-! DEFINITION. Memory as a list of cells in one canonical form (20_memory.md). -/

namespace Sys2Proof.Machine

/-- What an address that is not listed reads as: the reset contents (R51). -/
def Memory.unlisted : Byte := 0x00

/-- The byte at address `a` (R52). -/
def Memory.readAt (a : Nat) : Memory → Byte
  | [] => Memory.unlisted
  | (b, v) :: rest => if b = a then v else Memory.readAt a rest

/-- The cells whose address is not `a`. -/
def Memory.eraseAt (a : Nat) : Memory → Memory
  | [] => []
  | (b, v) :: rest => if b = a then Memory.eraseAt a rest else (b, v) :: Memory.eraseAt a rest

/-- The cell `(a, v)` put before the first cell with a higher address. -/
def Memory.insertAt (a : Nat) (v : Byte) : Memory → Memory
  | [] => [(a, v)]
  | (b, w) :: rest => if a < b then (a, v) :: (b, w) :: rest else (b, w) :: Memory.insertAt a v rest

/-- Memory with the byte at `a` replaced by `v` (R52). A byte equal to what an unlisted address reads as is not listed. -/
def Memory.writeAt (a : Nat) (v : Byte) (m : Memory) : Memory :=
  if v = Memory.unlisted then Memory.eraseAt a m else Memory.insertAt a v (Memory.eraseAt a m)

/-- `MemRead(a, 1)`. An address is 16 bits, so no access leaves the 65,536 bytes (R12, R53). -/
def Memory.read (m : Memory) (a : Word) : Byte := Memory.readAt a.toNat m

/-- `MemWrite(a, 1, v)` (R12). -/
def Memory.write (m : Memory) (a : Word) (v : Byte) : Memory := Memory.writeAt a.toNat v m

/-- Memory with `bytes` stored at `a` and the addresses after it, as the host copies an image (R51, R401). -/
def Memory.load (a : Nat) : List Byte → Memory → Memory
  | [], m => m
  | v :: vs, m => Memory.load (a + 1) vs (Memory.writeAt a v m)

/-- The canonical form from address `lo` up: addresses strictly rising and inside the address space, no byte listed that an
unlisted address reads as. -/
def Memory.wfFrom (lo : Nat) : Memory → Bool
  | [] => true
  | (a, v) :: rest =>
    decide (lo ≤ a) && decide (a < Config.memorySize) && decide (v ≠ Memory.unlisted) && Memory.wfFrom (a + 1) rest

/-- The canonical form of a memory. -/
def Memory.wf (m : Memory) : Bool := Memory.wfFrom 0 m

end Sys2Proof.Machine
end

