-- ==== Sys2Proof/Machine/Ops.lean ====
section
/-! DEFINITION. The named operations over registers, memory, the stack and the program counter, and taking the block's one
exception. An operation takes the state last; every address is a 16-bit value, so it wraps modulo 2^16 (R53). -/

namespace Sys2Proof.Machine

/-! ## Pairing (R15) -/

/-- `combine(hi, lo)` (R15). -/
def combine (hi lo : Byte) : Word := hi ++ lo

/-- The high byte of a 16-bit value, the first part of `split` (R15). -/
def highByte (v : Word) : Byte := v.extractLsb' 8 8

/-- The low byte of a 16-bit value, the second part of `split` (R15). -/
def lowByte (v : Word) : Byte := v.extractLsb' 0 8

/-! ## One field at a time -/

/-- `SP <- v`. -/
def setSp (v : Word) (s : State) : State := { s with sp := v }

/-- The flags replaced. -/
def setFlags (f : Flags) (s : State) : State := { s with flags := f }

/-- `CY <- v`, the other flags kept. -/
def setCarry (v : Bool) (s : State) : State := { s with flags := { s.flags with cy := v } }

/-- `INTE <- v` (R34). -/
def setInte (v : Bool) (s : State) : State := { s with inte := v }

/-- `status <- v` (R35). -/
def setStatus (v : Status) (s : State) : State := { s with status := v }

/-- One more `IN_VALUE` draw taken (R8). -/
def takeDraw (s : State) : State := { s with inDraws := s.inDraws + 1 }

/-! ## Registers and pair views -/

/-- The value of a register (R20). -/
def readReg : Reg → State → Byte
  | .b, s => s.b
  | .c, s => s.c
  | .d, s => s.d
  | .e, s => s.e
  | .h, s => s.h
  | .l, s => s.l
  | .a, s => s.a

/-- A register written (R20). -/
def writeReg (r : Reg) (v : Byte) (s : State) : State :=
  match r with
  | .b => { s with b := v }
  | .c => { s with c := v }
  | .d => { s with d := v }
  | .e => { s with e := v }
  | .h => { s with h := v }
  | .l => { s with l := v }
  | .a => { s with a := v }

/-- The high register of a pair (R22). -/
def highReg : RegPair → Reg
  | .bc => .b
  | .de => .d
  | .hl => .h

/-- The low register of a pair (R22). -/
def lowReg : RegPair → Reg
  | .bc => .c
  | .de => .e
  | .hl => .l

/-- A pair view, computed from its two registers (R22). -/
def readPair (p : RegPair) (s : State) : Word := combine (readReg (highReg p) s) (readReg (lowReg p) s)

/-- A pair view written: `v[15:8]` to the high register, `v[7:0]` to the low one (R23). -/
def writePair (p : RegPair) (v : Word) (s : State) : State :=
  writeReg (lowReg p) (lowByte v) (writeReg (highReg p) (highByte v) s)

/-- The value of a pair or of SP (R83). -/
def readPair16 : Pair16 → State → Word
  | .bc, s => readPair .bc s
  | .de, s => readPair .de s
  | .hl, s => readPair .hl s
  | .sp, s => s.sp

/-- A pair or SP written (R83). -/
def writePair16 : Pair16 → Word → State → State
  | .bc, v, s => writePair .bc v s
  | .de, v, s => writePair .de v s
  | .hl, v, s => writePair .hl v s
  | .sp, v, s => setSp v s

/-- `DE` and `HL` exchanged (R153). -/
def exchangeDeHl (s : State) : State := { s with d := s.h, e := s.l, h := s.d, l := s.e }

/-! ## Memory -/

/-- `MemRead(a, 1)` (R12). -/
def readMem (a : Word) (s : State) : Byte := Memory.read s.mem a

/-- `MemWrite(a, 1, v)` (R12). -/
def writeMem (a : Word) (v : Byte) (s : State) : State := { s with mem := Memory.write s.mem a v }

/-- `MemRead(a, 2)`: the low byte at `a`, the high byte at `a + 1` (R12, R55). -/
def readMem16 (a : Word) (s : State) : Word := combine (readMem (a + 1) s) (readMem a s)

/-- `MemWrite(a, 2, v)`: the low byte to `a`, then the high byte to `a + 1` (R12, R55). -/
def writeMem16 (a : Word) (v : Word) (s : State) : State :=
  writeMem (a + 1) (highByte v) (writeMem a (lowByte v) s)

/-- The byte at `HL`, the operand `M` (R54). -/
def readAtHl (s : State) : Byte := readMem (readPair .hl s) s

/-! ## The program counter (R25, R115) -/

/-- `next`, the address after an instruction of `width` bytes (R13, R26). -/
def nextPc (width : Nat) (s : State) : Word := s.pc + BitVec.ofNat 16 width

/-- `PC <- next`. -/
def advance (width : Nat) (s : State) : State := { s with pc := nextPc width s }

/-- `PC <- target`. -/
def jumpTo (target : Word) (s : State) : State := { s with pc := target }

/-- A register loaded by an instruction of `width` bytes that does nothing else. -/
def loadReg (r : Reg) (v : Byte) (width : Nat) (s : State) : State := advance width (writeReg r v s)

/-- The byte at `HL` stored by an instruction of `width` bytes that does nothing else. -/
def storeAtHl (v : Byte) (width : Nat) (s : State) : State := advance width (writeMem (readPair .hl s) v s)

/-! ## The stack -/

/-- `push16(v)`: the high byte to `SP - 1`, then the low byte to `SP - 2`; `SP <- SP - 2` (R290). -/
def push16 (v : Word) (s : State) : State :=
  setSp (s.sp - 2) (writeMem (s.sp - 2) (lowByte v) (writeMem (s.sp - 1) (highByte v) s))

/-- The value `pop16()` returns: the low byte from `SP`, the high byte from `SP + 1` (R291). -/
def popValue (s : State) : Word := readMem16 s.sp s

/-- What `pop16()` does to the state: `SP <- SP + 2` (R291). -/
def dropPopped (s : State) : State := setSp (s.sp + 2) s

/-- `HL` exchanged with the two bytes at `SP`; both reads come before the writes (R335, R116). -/
def exchangeStackHl (s : State) : State :=
  writePair .hl (readMem16 s.sp s) (writeMem16 s.sp (readPair .hl s) s)

/-! ## The exception

There is no return from it: no trap return exists and a fault status is never cleared (R377, R35). -/

/-- Taking `UnimplementedOpcode(pc0, op)`: `status <- Fault(pc0, op)`, and nothing else is written (R14, R114, R376). -/
def raiseUnimplemented (op : Byte) (s : State) : State := setStatus (.fault s.pc op) s

end Sys2Proof.Machine
end

