-- ==== Sys2Proof/Machine/Operands.lean ====
section
/-! DEFINITION. The operand forms of the ALU instructions (R82, R85, R86). -/

namespace Sys2Proof.Machine

/-- The value of a second operand: a register, the byte at `HL`, or the immediate byte taken as it stands (R82, R86). -/
def operandValue : Src → State → Byte
  | .reg r, s => readReg r s
  | .mem, s => readAtHl s
  | .imm v, _ => v

/-- The width of an ALU instruction with that operand: two bytes with an immediate, else one (R80). -/
def srcWidth : Src → Nat
  | .reg _ => 1
  | .mem => 1
  | .imm _ => 2

end Sys2Proof.Machine
end

