-- ==== Sys2Proof/Machine/Flags.lean ====
section
/-! DEFINITION. Every flag computation: the flag ALU (42_arithmetic.md), the logical rule (43_logical.md), the condition
predicate (44_branch.md) and the packed flag byte (46_stack.md). Sums are taken exactly, on integers, and narrowed at the
end (R10). -/

namespace Sys2Proof.Machine

/-! ## Z, S and P (R16, R170) -/

/-- The number of 1 bits of a byte (R10). -/
def popcount (v : Byte) : Nat := (List.range 8).countP (fun i => v.getLsbD i)

/-- `parity(v)`: whether the number of 1 bits is even (R16). -/
def parity (v : Byte) : Bool := decide (popcount v % 2 = 0)

/-- `setZSP(res)`: Z, S and P from a result, the other flags kept (R170). -/
def setZsp (res : Byte) (f : Flags) : Flags :=
  { f with z := decide (res = 0), s := res.msb, p := parity res }

/-- CY replaced, the other flags kept. -/
def setCy (v : Bool) (f : Flags) : Flags := { f with cy := v }

/-! ## Addition and subtraction (R171, R172) -/

/-- A carry or borrow as a number, 0 or 1 (R11). -/
def bitNat (b : Bool) : Nat := if b then 1 else 0

/-- The exact sum of an 8-bit addition, the 9-bit intermediate `t` (R171). -/
def sum8 (a v : Byte) (cin : Bool) : Nat := a.toNat + v.toNat + bitNat cin

/-- `add8(a, v, cin)`: the result and all five flags; AC is the carry out of bit 3 (R171, D3). -/
def add8 (a v : Byte) (cin : Bool) : Byte × Flags :=
  let res := BitVec.ofNat 8 (sum8 a v cin)
  (res, { z := decide (res = 0), s := res.msb, p := parity res,
          cy := decide (sum8 a v cin > 255),
          ac := decide (a.toNat % 16 + v.toNat % 16 + bitNat cin > 15) })

/-- The exact difference of an 8-bit subtraction, `t` (R172). -/
def diff8 (a v : Byte) (bin : Bool) : Int := (a.toNat : Int) - (v.toNat : Int) - (bitNat bin : Int)

/-- `sub8(a, v, bin)`: the result and all five flags; CY is the borrow, AC the carry out of bit 3 of the addition of the
ones' complement of `v` (R172, D3). -/
def sub8 (a v : Byte) (bin : Bool) : Byte × Flags :=
  let res := BitVec.ofInt 8 (diff8 a v bin)
  (res, { z := decide (res = 0), s := res.msb, p := parity res,
          cy := decide (diff8 a v bin < 0),
          ac := decide (a.toNat % 16 + (~~~v).toNat % 16 + (1 - bitNat bin) > 15) })

/-- The flags of INR from its result: Z, S, P and AC; CY is kept (R188, D3). -/
def incFlags (res : Byte) (f : Flags) : Flags :=
  { setZsp res f with ac := decide (res.toNat % 16 = 0) }

/-- The flags of DCR from its result: Z, S, P and AC; CY is kept (R190, D3). -/
def decFlags (res : Byte) (f : Flags) : Flags :=
  { setZsp res f with ac := decide (res.toNat % 16 ≠ 15) }

/-- The carry out of a 16-bit addition (R194). -/
def addCarry16 (x y : Word) : Bool := decide (x.toNat + y.toNat > 0xFFFF)

/-- The result and flags of an ALU operation written to A and the flags, past the instruction (R173 to R184, R231 to
R239). -/
def writeAlu (r : Byte × Flags) (v : Src) (s : State) : State :=
  advance (srcWidth v) (setFlags r.2 (writeReg .a r.1 s))

/-! ## Decimal adjust (R195) -/

/-- Whether DAA applies the low correction. -/
def daaLow (a : Byte) (f : Flags) : Bool := f.ac || decide (a.toNat % 16 > 9)

/-- Whether DAA applies the high correction. -/
def daaHigh (a : Byte) (f : Flags) : Bool :=
  f.cy || decide (a.toNat / 16 > 9) || (decide (a.toNat / 16 ≥ 9) && decide (a.toNat % 16 > 9))

/-- The correction DAA adds to A. -/
def daaCorrection (a : Byte) (f : Flags) : Byte :=
  (if daaLow a f then 0x06 else 0) + (if daaHigh a f then 0x60 else 0)

/-- CY after DAA: set by the high correction, else as it was. -/
def daaCarry (a : Byte) (f : Flags) : Bool := daaHigh a f || f.cy

/-! ## Logic and rotates (R230, R240 to R243) -/

/-- The flags of a logical operation: CY clear, AC as given, Z, S and P from the result (R230). -/
def logicFlags (res : Byte) (ac : Bool) : Flags :=
  { z := decide (res = 0), s := res.msb, p := parity res, cy := false, ac := ac }

/-- `logic(AND, a, v)`: AC is the OR of bit 3 of the operands (R230, D3). -/
def logicAnd (a v : Byte) : Byte × Flags := (a &&& v, logicFlags (a &&& v) ((a ||| v).getLsbD 3))

/-- `logic(XOR, a, v)`: AC is clear (R230, D3). -/
def logicXor (a v : Byte) : Byte × Flags := (a ^^^ v, logicFlags (a ^^^ v) false)

/-- `logic(OR, a, v)`: AC is clear (R230, D3). -/
def logicOr (a v : Byte) : Byte × Flags := (a ||| v, logicFlags (a ||| v) false)

/-- A bit as a byte, in bit 0. -/
def bitByte (b : Bool) : Byte := if b then 1 else 0

/-- A byte shifted left by one with `b` entering at bit 0 (R240, R242). -/
def shiftLeftIn (v : Byte) (b : Bool) : Byte := (v <<< 1) ||| bitByte b

/-- A byte shifted right by one with `b` entering at bit 7 (R241, R243). -/
def shiftRightIn (v : Byte) (b : Bool) : Byte := (v >>> 1) ||| (bitByte b <<< 7)

/-! ## The condition predicate (R260) -/

/-- `cond(ccc)`, from the flags at the start of the instruction (R260). -/
def condHolds : Cond → Flags → Bool
  | .nz, f => !f.z
  | .z, f => f.z
  | .nc, f => !f.cy
  | .c, f => f.cy
  | .po, f => !f.p
  | .pe, f => f.p
  | .p, f => !f.s
  | .m, f => f.s

/-! ## The packed flag byte (R330) -/

/-- `flagbyte`: from bit 4 down AC, CY, P, S, Z; bits 7 to 5 are 0 (R330, D4). -/
def flagByte (f : Flags) : Byte :=
  (bitByte f.ac <<< 4) ||| (bitByte f.cy <<< 3) ||| (bitByte f.p <<< 2) ||| (bitByte f.s <<< 1) ||| bitByte f.z

/-- `unpack(f)`: the flags from bits 4 to 0; bits 7 to 5 are ignored (R330, D4). -/
def unpackFlags (v : Byte) : Flags :=
  { z := v.getLsbD 0, s := v.getLsbD 1, p := v.getLsbD 2, cy := v.getLsbD 3, ac := v.getLsbD 4 }

/-- `PSW`: A as the high byte, the packed flags as the low byte (R330). -/
def psw (s : State) : Word := combine s.a (flagByte s.flags)

/-- A and the flags taken from a popped PSW (R334). -/
def writePsw (v : Word) (s : State) : State := setFlags (unpackFlags (lowByte v)) (writeReg .a (highByte v) s)

end Sys2Proof.Machine
end

