-- ==== Sys2Proof/Machine/Arith.lean ====
section
/-! DEFINITION. Arithmetic instructions (42_arithmetic.md), over the flag ALU of Flags.lean. -/

namespace Sys2Proof.Machine

/-- ADD, ADI: add the operand to A (R173 to R175). -/
def aluAdd (v : Src) (s : State) : State :=
  writeAlu (add8 s.a (operandValue v s) false) v s

/-- ADC, ACI: add the operand and the carry to A (R176 to R178). -/
def aluAddCarry (v : Src) (s : State) : State :=
  writeAlu (add8 s.a (operandValue v s) s.flags.cy) v s

/-- SUB, SUI: subtract the operand from A (R179 to R181). -/
def aluSub (v : Src) (s : State) : State :=
  writeAlu (sub8 s.a (operandValue v s) false) v s

/-- SBB, SBI: subtract the operand and the carry, as the borrow, from A (R182 to R184). -/
def aluSubBorrow (v : Src) (s : State) : State :=
  writeAlu (sub8 s.a (operandValue v s) s.flags.cy) v s

/-- CMP, CPI: the flags of a subtraction; A is not written (R185 to R187). -/
def aluCompare (v : Src) (s : State) : State :=
  advance (srcWidth v) (setFlags (sub8 s.a (operandValue v s) false).2 s)

/-- INR on a register (R188). -/
def incrementReg (r : Reg) (s : State) : State :=
  advance 1 (setFlags (incFlags (readReg r s + 1) s.flags) (writeReg r (readReg r s + 1) s))

/-- INR on the byte at HL, read before it is written (R189, R116). -/
def incrementMem (s : State) : State :=
  advance 1 (setFlags (incFlags (readAtHl s + 1) s.flags) (writeMem (readPair .hl s) (readAtHl s + 1) s))

/-- DCR on a register (R190). -/
def decrementReg (r : Reg) (s : State) : State :=
  advance 1 (setFlags (decFlags (readReg r s - 1) s.flags) (writeReg r (readReg r s - 1) s))

/-- DCR on the byte at HL, read before it is written (R191, R116). -/
def decrementMem (s : State) : State :=
  advance 1 (setFlags (decFlags (readAtHl s - 1) s.flags) (writeMem (readPair .hl s) (readAtHl s - 1) s))

/-- INX: a pair or SP plus one, no flag (R192). -/
def incrementPair (p : Pair16) (s : State) : State :=
  advance 1 (writePair16 p (readPair16 p s + 1) s)

/-- DCX: a pair or SP minus one, no flag (R193). -/
def decrementPair (p : Pair16) (s : State) : State :=
  advance 1 (writePair16 p (readPair16 p s - 1) s)

/-- DAD: add a pair or SP into HL; CY is the carry out of bit 15, no other flag (R194). -/
def doubleAdd (p : Pair16) (s : State) : State :=
  advance 1 (setCarry (addCarry16 (readPair .hl s) (readPair16 p s)) (writePair .hl (readPair .hl s + readPair16 p s) s))

/-- DAA: add the decimal correction to A; CY is set by the high correction and never cleared (R195). -/
def decimalAdjust (s : State) : State :=
  let sum := add8 s.a (daaCorrection s.a s.flags) false
  advance 1 (setFlags (setCy (daaCarry s.a s.flags) sum.2) (writeReg .a sum.1 s))

/-- `INX B`, 0x03 (R192). -/
def execInxB (s : State) : Result := .next (incrementPair .bc s)
/-- `INR B`, 0x04 (R188). -/
def execInrB (s : State) : Result := .next (incrementReg .b s)
/-- `DCR B`, 0x05 (R190). -/
def execDcrB (s : State) : Result := .next (decrementReg .b s)
/-- `DAD B`, 0x09 (R194). -/
def execDadB (s : State) : Result := .next (doubleAdd .bc s)
/-- `DCX B`, 0x0B (R193). -/
def execDcxB (s : State) : Result := .next (decrementPair .bc s)
/-- `INR C`, 0x0C (R188). -/
def execInrC (s : State) : Result := .next (incrementReg .c s)
/-- `DCR C`, 0x0D (R190). -/
def execDcrC (s : State) : Result := .next (decrementReg .c s)
/-- `INX D`, 0x13 (R192). -/
def execInxD (s : State) : Result := .next (incrementPair .de s)
/-- `INR D`, 0x14 (R188). -/
def execInrD (s : State) : Result := .next (incrementReg .d s)
/-- `DCR D`, 0x15 (R190). -/
def execDcrD (s : State) : Result := .next (decrementReg .d s)
/-- `DAD D`, 0x19 (R194). -/
def execDadD (s : State) : Result := .next (doubleAdd .de s)
/-- `DCX D`, 0x1B (R193). -/
def execDcxD (s : State) : Result := .next (decrementPair .de s)
/-- `INR E`, 0x1C (R188). -/
def execInrE (s : State) : Result := .next (incrementReg .e s)
/-- `DCR E`, 0x1D (R190). -/
def execDcrE (s : State) : Result := .next (decrementReg .e s)
/-- `INX H`, 0x23 (R192). -/
def execInxH (s : State) : Result := .next (incrementPair .hl s)
/-- `INR H`, 0x24 (R188). -/
def execInrH (s : State) : Result := .next (incrementReg .h s)
/-- `DCR H`, 0x25 (R190). -/
def execDcrH (s : State) : Result := .next (decrementReg .h s)
/-- `DAA`, 0x27 (R195). -/
def execDaa (s : State) : Result := .next (decimalAdjust s)
/-- `DAD H`, 0x29 (R194). -/
def execDadH (s : State) : Result := .next (doubleAdd .hl s)
/-- `DCX H`, 0x2B (R193). -/
def execDcxH (s : State) : Result := .next (decrementPair .hl s)
/-- `INR L`, 0x2C (R188). -/
def execInrL (s : State) : Result := .next (incrementReg .l s)
/-- `DCR L`, 0x2D (R190). -/
def execDcrL (s : State) : Result := .next (decrementReg .l s)
/-- `INX SP`, 0x33 (R192). -/
def execInxSp (s : State) : Result := .next (incrementPair .sp s)
/-- `INR M`, 0x34 (R189). -/
def execInrM (s : State) : Result := .next (incrementMem s)
/-- `DCR M`, 0x35 (R191). -/
def execDcrM (s : State) : Result := .next (decrementMem s)
/-- `DAD SP`, 0x39 (R194). -/
def execDadSp (s : State) : Result := .next (doubleAdd .sp s)
/-- `DCX SP`, 0x3B (R193). -/
def execDcxSp (s : State) : Result := .next (decrementPair .sp s)
/-- `INR A`, 0x3C (R188). -/
def execInrA (s : State) : Result := .next (incrementReg .a s)
/-- `DCR A`, 0x3D (R190). -/
def execDcrA (s : State) : Result := .next (decrementReg .a s)
/-- `ADD B`, 0x80 (R173). -/
def execAddB (s : State) : Result := .next (aluAdd (.reg .b) s)
/-- `ADD C`, 0x81 (R173). -/
def execAddC (s : State) : Result := .next (aluAdd (.reg .c) s)
/-- `ADD D`, 0x82 (R173). -/
def execAddD (s : State) : Result := .next (aluAdd (.reg .d) s)
/-- `ADD E`, 0x83 (R173). -/
def execAddE (s : State) : Result := .next (aluAdd (.reg .e) s)
/-- `ADD H`, 0x84 (R173). -/
def execAddH (s : State) : Result := .next (aluAdd (.reg .h) s)
/-- `ADD L`, 0x85 (R173). -/
def execAddL (s : State) : Result := .next (aluAdd (.reg .l) s)
/-- `ADD M`, 0x86 (R174). -/
def execAddM (s : State) : Result := .next (aluAdd .mem s)
/-- `ADD A`, 0x87 (R173). -/
def execAddA (s : State) : Result := .next (aluAdd (.reg .a) s)
/-- `ADC B`, 0x88 (R176). -/
def execAdcB (s : State) : Result := .next (aluAddCarry (.reg .b) s)
/-- `ADC C`, 0x89 (R176). -/
def execAdcC (s : State) : Result := .next (aluAddCarry (.reg .c) s)
/-- `ADC D`, 0x8A (R176). -/
def execAdcD (s : State) : Result := .next (aluAddCarry (.reg .d) s)
/-- `ADC E`, 0x8B (R176). -/
def execAdcE (s : State) : Result := .next (aluAddCarry (.reg .e) s)
/-- `ADC H`, 0x8C (R176). -/
def execAdcH (s : State) : Result := .next (aluAddCarry (.reg .h) s)
/-- `ADC L`, 0x8D (R176). -/
def execAdcL (s : State) : Result := .next (aluAddCarry (.reg .l) s)
/-- `ADC M`, 0x8E (R177). -/
def execAdcM (s : State) : Result := .next (aluAddCarry .mem s)
/-- `ADC A`, 0x8F (R176). -/
def execAdcA (s : State) : Result := .next (aluAddCarry (.reg .a) s)
/-- `SUB B`, 0x90 (R179). -/
def execSubB (s : State) : Result := .next (aluSub (.reg .b) s)
/-- `SUB C`, 0x91 (R179). -/
def execSubC (s : State) : Result := .next (aluSub (.reg .c) s)
/-- `SUB D`, 0x92 (R179). -/
def execSubD (s : State) : Result := .next (aluSub (.reg .d) s)
/-- `SUB E`, 0x93 (R179). -/
def execSubE (s : State) : Result := .next (aluSub (.reg .e) s)
/-- `SUB H`, 0x94 (R179). -/
def execSubH (s : State) : Result := .next (aluSub (.reg .h) s)
/-- `SUB L`, 0x95 (R179). -/
def execSubL (s : State) : Result := .next (aluSub (.reg .l) s)
/-- `SUB M`, 0x96 (R180). -/
def execSubM (s : State) : Result := .next (aluSub .mem s)
/-- `SUB A`, 0x97 (R179). -/
def execSubA (s : State) : Result := .next (aluSub (.reg .a) s)
/-- `SBB B`, 0x98 (R182). -/
def execSbbB (s : State) : Result := .next (aluSubBorrow (.reg .b) s)
/-- `SBB C`, 0x99 (R182). -/
def execSbbC (s : State) : Result := .next (aluSubBorrow (.reg .c) s)
/-- `SBB D`, 0x9A (R182). -/
def execSbbD (s : State) : Result := .next (aluSubBorrow (.reg .d) s)
/-- `SBB E`, 0x9B (R182). -/
def execSbbE (s : State) : Result := .next (aluSubBorrow (.reg .e) s)
/-- `SBB H`, 0x9C (R182). -/
def execSbbH (s : State) : Result := .next (aluSubBorrow (.reg .h) s)
/-- `SBB L`, 0x9D (R182). -/
def execSbbL (s : State) : Result := .next (aluSubBorrow (.reg .l) s)
/-- `SBB M`, 0x9E (R183). -/
def execSbbM (s : State) : Result := .next (aluSubBorrow .mem s)
/-- `SBB A`, 0x9F (R182). -/
def execSbbA (s : State) : Result := .next (aluSubBorrow (.reg .a) s)
/-- `CMP B`, 0xB8 (R185). -/
def execCmpB (s : State) : Result := .next (aluCompare (.reg .b) s)
/-- `CMP C`, 0xB9 (R185). -/
def execCmpC (s : State) : Result := .next (aluCompare (.reg .c) s)
/-- `CMP D`, 0xBA (R185). -/
def execCmpD (s : State) : Result := .next (aluCompare (.reg .d) s)
/-- `CMP E`, 0xBB (R185). -/
def execCmpE (s : State) : Result := .next (aluCompare (.reg .e) s)
/-- `CMP H`, 0xBC (R185). -/
def execCmpH (s : State) : Result := .next (aluCompare (.reg .h) s)
/-- `CMP L`, 0xBD (R185). -/
def execCmpL (s : State) : Result := .next (aluCompare (.reg .l) s)
/-- `CMP M`, 0xBE (R186). -/
def execCmpM (s : State) : Result := .next (aluCompare .mem s)
/-- `CMP A`, 0xBF (R185). -/
def execCmpA (s : State) : Result := .next (aluCompare (.reg .a) s)
/-- `ADI d8`, 0xC6 (R175). -/
def execAdi (d8 : Byte) (s : State) : Result := .next (aluAdd (.imm d8) s)
/-- `ACI d8`, 0xCE (R178). -/
def execAci (d8 : Byte) (s : State) : Result := .next (aluAddCarry (.imm d8) s)
/-- `SUI d8`, 0xD6 (R181). -/
def execSui (d8 : Byte) (s : State) : Result := .next (aluSub (.imm d8) s)
/-- `SBI d8`, 0xDE (R184). -/
def execSbi (d8 : Byte) (s : State) : Result := .next (aluSubBorrow (.imm d8) s)
/-- `CPI d8`, 0xFE (R187). -/
def execCpi (d8 : Byte) (s : State) : Result := .next (aluCompare (.imm d8) s)

end Sys2Proof.Machine
end

