-- ==== Sys2Proof/Machine/Branch.lean ====
section
/-! DEFINITION. Jump instructions (44_branch.md). -/

namespace Sys2Proof.Machine

/-- A conditional jump: to the target when the condition holds, else past the three bytes (R262 to R269). -/
def jumpIf (cond : Cond) (target : Word) (s : State) : State :=
  if condHolds cond s.flags then jumpTo target s else advance 3 s

/-- `JNZ a16`, 0xC2 (R262). -/
def execJnz (a16 : Word) (s : State) : Result := .next (jumpIf .nz a16 s)
/-- `JMP a16`, 0xC3 (R261). -/
def execJmp (a16 : Word) (s : State) : Result := .next (jumpTo a16 s)
/-- `JZ a16`, 0xCA (R263). -/
def execJz (a16 : Word) (s : State) : Result := .next (jumpIf .z a16 s)
/-- `JNC a16`, 0xD2 (R264). -/
def execJnc (a16 : Word) (s : State) : Result := .next (jumpIf .nc a16 s)
/-- `JC a16`, 0xDA (R265). -/
def execJc (a16 : Word) (s : State) : Result := .next (jumpIf .c a16 s)
/-- `JPO a16`, 0xE2 (R266). -/
def execJpo (a16 : Word) (s : State) : Result := .next (jumpIf .po a16 s)
/-- `PCHL`, 0xE9 (R270). -/
def execPchl (s : State) : Result := .next (jumpTo (readPair .hl s) s)
/-- `JPE a16`, 0xEA (R267). -/
def execJpe (a16 : Word) (s : State) : Result := .next (jumpIf .pe a16 s)
/-- `JP a16`, 0xF2 (R268). -/
def execJp (a16 : Word) (s : State) : Result := .next (jumpIf .p a16 s)
/-- `JM a16`, 0xFA (R269). -/
def execJm (a16 : Word) (s : State) : Result := .next (jumpIf .m a16 s)

end Sys2Proof.Machine
end

