-- ==== Sys2Proof/Machine/Control.lean ====
section
/-! DEFINITION. Control and I/O instructions (47_control.md). None writes a flag, none needs a privilege (R379). -/

namespace Sys2Proof.Machine

/-- `NOP`, 0x00 (R352). -/
def execNop (s : State) : Result := .next (advance 1 s)
/-- `HLT`, 0x76 (R353). -/
def execHlt (s : State) : Result := .next (setStatus .halted (advance 1 s))
/-- `OUT p8`, 0xD3 (R355). -/
def execOutPort (_port : Byte) (s : State) : Result := .next (advance 2 s)
/-- `IN p8`, 0xDB (R354). -/
def execInPort (port : Byte) (s : State) : Result := .next (advance 2 (writeReg .a (Config.inValue s.inDraws port) (takeDraw s)))
/-- `DI`, 0xF3 (R351). -/
def execDi (s : State) : Result := .next (advance 1 (setInte false s))
/-- `EI`, 0xFB (R350). -/
def execEi (s : State) : Result := .next (advance 1 (setInte true s))

end Sys2Proof.Machine
end

