-- ==== Sys2Proof/Machine/Exceptions.lean ====
section
/-! DEFINITION. The twelve rows UNDEFINED: each takes the one exception of the block (R114, R120), whose entry is in Ops.lean. -/

namespace Sys2Proof.Machine

/-- `UNDEFINED`, 0x08 (R114). -/
def execUndefined08 (s : State) : Result := .next (raiseUnimplemented 0x08 s)
/-- `UNDEFINED`, 0x10 (R114). -/
def execUndefined10 (s : State) : Result := .next (raiseUnimplemented 0x10 s)
/-- `UNDEFINED`, 0x18 (R114). -/
def execUndefined18 (s : State) : Result := .next (raiseUnimplemented 0x18 s)
/-- `UNDEFINED`, 0x20 (R114). -/
def execUndefined20 (s : State) : Result := .next (raiseUnimplemented 0x20 s)
/-- `UNDEFINED`, 0x28 (R114). -/
def execUndefined28 (s : State) : Result := .next (raiseUnimplemented 0x28 s)
/-- `UNDEFINED`, 0x30 (R114). -/
def execUndefined30 (s : State) : Result := .next (raiseUnimplemented 0x30 s)
/-- `UNDEFINED`, 0x38 (R114). -/
def execUndefined38 (s : State) : Result := .next (raiseUnimplemented 0x38 s)
/-- `UNDEFINED`, 0xCB (R114). -/
def execUndefinedCB (s : State) : Result := .next (raiseUnimplemented 0xCB s)
/-- `UNDEFINED`, 0xD9 (R114). -/
def execUndefinedD9 (s : State) : Result := .next (raiseUnimplemented 0xD9 s)
/-- `UNDEFINED`, 0xDD (R114). -/
def execUndefinedDD (s : State) : Result := .next (raiseUnimplemented 0xDD s)
/-- `UNDEFINED`, 0xED (R114). -/
def execUndefinedED (s : State) : Result := .next (raiseUnimplemented 0xED s)
/-- `UNDEFINED`, 0xFD (R114). -/
def execUndefinedFD (s : State) : Result := .next (raiseUnimplemented 0xFD s)

end Sys2Proof.Machine
end

