-- ==== Sys2Proof/Machine/Logic.lean ====
section
/-! DEFINITION. Logical, rotate and carry instructions (43_logical.md). -/

namespace Sys2Proof.Machine

/-- ANA, ANI: AND the operand into A (R231 to R233). -/
def aluAnd (v : Src) (s : State) : State :=
  writeAlu (logicAnd s.a (operandValue v s)) v s

/-- XRA, XRI: exclusive-OR the operand into A (R234 to R236). -/
def aluXor (v : Src) (s : State) : State :=
  writeAlu (logicXor s.a (operandValue v s)) v s

/-- ORA, ORI: OR the operand into A (R237 to R239). -/
def aluOr (v : Src) (s : State) : State :=
  writeAlu (logicOr s.a (operandValue v s)) v s

/-- Rotate A left with `bit` entering at bit 0; CY takes the old bit 7 (R240, R242). -/
def rotateLeft (bit : Bool) (s : State) : State :=
  advance 1 (setCarry s.a.msb (writeReg .a (shiftLeftIn s.a bit) s))

/-- Rotate A right with `bit` entering at bit 7; CY takes the old bit 0 (R241, R243). -/
def rotateRight (bit : Bool) (s : State) : State :=
  advance 1 (setCarry (s.a.getLsbD 0) (writeReg .a (shiftRightIn s.a bit) s))

/-- `RLC`, 0x07 (R240). -/
def execRlc (s : State) : Result := .next (rotateLeft s.a.msb s)
/-- `RRC`, 0x0F (R241). -/
def execRrc (s : State) : Result := .next (rotateRight (s.a.getLsbD 0) s)
/-- `RAL`, 0x17 (R242). -/
def execRal (s : State) : Result := .next (rotateLeft s.flags.cy s)
/-- `RAR`, 0x1F (R243). -/
def execRar (s : State) : Result := .next (rotateRight s.flags.cy s)
/-- `CMA`, 0x2F (R244). -/
def execCma (s : State) : Result := .next (loadReg .a (~~~ readReg .a s) 1 s)
/-- `STC`, 0x37 (R246). -/
def execStc (s : State) : Result := .next (advance 1 (setCarry true s))
/-- `CMC`, 0x3F (R245). -/
def execCmc (s : State) : Result := .next (advance 1 (setCarry (!s.flags.cy) s))
/-- `ANA B`, 0xA0 (R231). -/
def execAnaB (s : State) : Result := .next (aluAnd (.reg .b) s)
/-- `ANA C`, 0xA1 (R231). -/
def execAnaC (s : State) : Result := .next (aluAnd (.reg .c) s)
/-- `ANA D`, 0xA2 (R231). -/
def execAnaD (s : State) : Result := .next (aluAnd (.reg .d) s)
/-- `ANA E`, 0xA3 (R231). -/
def execAnaE (s : State) : Result := .next (aluAnd (.reg .e) s)
/-- `ANA H`, 0xA4 (R231). -/
def execAnaH (s : State) : Result := .next (aluAnd (.reg .h) s)
/-- `ANA L`, 0xA5 (R231). -/
def execAnaL (s : State) : Result := .next (aluAnd (.reg .l) s)
/-- `ANA M`, 0xA6 (R232). -/
def execAnaM (s : State) : Result := .next (aluAnd .mem s)
/-- `ANA A`, 0xA7 (R231). -/
def execAnaA (s : State) : Result := .next (aluAnd (.reg .a) s)
/-- `XRA B`, 0xA8 (R234). -/
def execXraB (s : State) : Result := .next (aluXor (.reg .b) s)
/-- `XRA C`, 0xA9 (R234). -/
def execXraC (s : State) : Result := .next (aluXor (.reg .c) s)
/-- `XRA D`, 0xAA (R234). -/
def execXraD (s : State) : Result := .next (aluXor (.reg .d) s)
/-- `XRA E`, 0xAB (R234). -/
def execXraE (s : State) : Result := .next (aluXor (.reg .e) s)
/-- `XRA H`, 0xAC (R234). -/
def execXraH (s : State) : Result := .next (aluXor (.reg .h) s)
/-- `XRA L`, 0xAD (R234). -/
def execXraL (s : State) : Result := .next (aluXor (.reg .l) s)
/-- `XRA M`, 0xAE (R235). -/
def execXraM (s : State) : Result := .next (aluXor .mem s)
/-- `XRA A`, 0xAF (R234). -/
def execXraA (s : State) : Result := .next (aluXor (.reg .a) s)
/-- `ORA B`, 0xB0 (R237). -/
def execOraB (s : State) : Result := .next (aluOr (.reg .b) s)
/-- `ORA C`, 0xB1 (R237). -/
def execOraC (s : State) : Result := .next (aluOr (.reg .c) s)
/-- `ORA D`, 0xB2 (R237). -/
def execOraD (s : State) : Result := .next (aluOr (.reg .d) s)
/-- `ORA E`, 0xB3 (R237). -/
def execOraE (s : State) : Result := .next (aluOr (.reg .e) s)
/-- `ORA H`, 0xB4 (R237). -/
def execOraH (s : State) : Result := .next (aluOr (.reg .h) s)
/-- `ORA L`, 0xB5 (R237). -/
def execOraL (s : State) : Result := .next (aluOr (.reg .l) s)
/-- `ORA M`, 0xB6 (R238). -/
def execOraM (s : State) : Result := .next (aluOr .mem s)
/-- `ORA A`, 0xB7 (R237). -/
def execOraA (s : State) : Result := .next (aluOr (.reg .a) s)
/-- `ANI d8`, 0xE6 (R233). -/
def execAni (d8 : Byte) (s : State) : Result := .next (aluAnd (.imm d8) s)
/-- `XRI d8`, 0xEE (R236). -/
def execXri (d8 : Byte) (s : State) : Result := .next (aluXor (.imm d8) s)
/-- `ORI d8`, 0xF6 (R239). -/
def execOri (d8 : Byte) (s : State) : Result := .next (aluOr (.imm d8) s)

end Sys2Proof.Machine
end

