-- ==== Sys2Proof/Machine/Stack.lean ====
section
/-! DEFINITION. Stack instructions (46_stack.md). -/

namespace Sys2Proof.Machine

/-- `POP B`, 0xC1 (R333). -/
def execPopB (s : State) : Result := .next (advance 1 (writePair .bc (popValue s) (dropPopped s)))
/-- `PUSH B`, 0xC5 (R331). -/
def execPushB (s : State) : Result := .next (advance 1 (push16 (readPair .bc s) s))
/-- `POP D`, 0xD1 (R333). -/
def execPopD (s : State) : Result := .next (advance 1 (writePair .de (popValue s) (dropPopped s)))
/-- `PUSH D`, 0xD5 (R331). -/
def execPushD (s : State) : Result := .next (advance 1 (push16 (readPair .de s) s))
/-- `POP H`, 0xE1 (R333). -/
def execPopH (s : State) : Result := .next (advance 1 (writePair .hl (popValue s) (dropPopped s)))
/-- `XTHL`, 0xE3 (R335). -/
def execXthl (s : State) : Result := .next (advance 1 (exchangeStackHl s))
/-- `PUSH H`, 0xE5 (R331). -/
def execPushH (s : State) : Result := .next (advance 1 (push16 (readPair .hl s) s))
/-- `POP PSW`, 0xF1 (R334). -/
def execPopPsw (s : State) : Result := .next (advance 1 (writePsw (popValue s) (dropPopped s)))
/-- `PUSH PSW`, 0xF5 (R332). -/
def execPushPsw (s : State) : Result := .next (advance 1 (push16 (psw s) s))
/-- `SPHL`, 0xF9 (R336). -/
def execSphl (s : State) : Result := .next (advance 1 (setSp (readPair .hl s) s))

end Sys2Proof.Machine
end

