-- ==== Sys2Proof/Machine/Subroutine.lean ====
section
/-! DEFINITION. Calls, returns and restarts (45_subroutine.md), over `push16` and the pop of Ops.lean. -/

namespace Sys2Proof.Machine

/-- A call of an instruction of `width` bytes: push the address after it, then jump (R292, R310). -/
def callTo (target : Word) (width : Nat) (s : State) : State :=
  jumpTo target (push16 (nextPc width s) s)

/-- A conditional call: as CALL when the condition holds, else past the three bytes with no memory access (R293 to R300). -/
def callIf (cond : Cond) (target : Word) (s : State) : State :=
  if condHolds cond s.flags then callTo target 3 s else advance 3 s

/-- RET: pop the program counter (R301). -/
def returnFrom (s : State) : State := jumpTo (popValue s) (dropPopped s)

/-- A conditional return: as RET when the condition holds, else past the one byte with no memory access (R302 to R309). -/
def returnIf (cond : Cond) (s : State) : State :=
  if condHolds cond s.flags then returnFrom s else advance 1 s

/-- The target of `RST n`, eight times `n` (R88, R310). -/
def restartTarget (nnn : BitVec 3) : Word := nnn.zeroExtend 16 <<< 3

/-- `RNZ`, 0xC0 (R302). -/
def execRnz (s : State) : Result := .next (returnIf .nz s)
/-- `CNZ a16`, 0xC4 (R293). -/
def execCnz (a16 : Word) (s : State) : Result := .next (callIf .nz a16 s)
/-- `RST 0`, 0xC7 (R310). -/
def execRst0 (s : State) : Result := .next (callTo (restartTarget 0) 1 s)
/-- `RZ`, 0xC8 (R303). -/
def execRz (s : State) : Result := .next (returnIf .z s)
/-- `RET`, 0xC9 (R301). -/
def execRet (s : State) : Result := .next (returnFrom s)
/-- `CZ a16`, 0xCC (R294). -/
def execCz (a16 : Word) (s : State) : Result := .next (callIf .z a16 s)
/-- `CALL a16`, 0xCD (R292). -/
def execCall (a16 : Word) (s : State) : Result := .next (callTo a16 3 s)
/-- `RST 1`, 0xCF (R310). -/
def execRst1 (s : State) : Result := .next (callTo (restartTarget 1) 1 s)
/-- `RNC`, 0xD0 (R304). -/
def execRnc (s : State) : Result := .next (returnIf .nc s)
/-- `CNC a16`, 0xD4 (R295). -/
def execCnc (a16 : Word) (s : State) : Result := .next (callIf .nc a16 s)
/-- `RST 2`, 0xD7 (R310). -/
def execRst2 (s : State) : Result := .next (callTo (restartTarget 2) 1 s)
/-- `RC`, 0xD8 (R305). -/
def execRc (s : State) : Result := .next (returnIf .c s)
/-- `CC a16`, 0xDC (R296). -/
def execCc (a16 : Word) (s : State) : Result := .next (callIf .c a16 s)
/-- `RST 3`, 0xDF (R310). -/
def execRst3 (s : State) : Result := .next (callTo (restartTarget 3) 1 s)
/-- `RPO`, 0xE0 (R306). -/
def execRpo (s : State) : Result := .next (returnIf .po s)
/-- `CPO a16`, 0xE4 (R297). -/
def execCpo (a16 : Word) (s : State) : Result := .next (callIf .po a16 s)
/-- `RST 4`, 0xE7 (R310). -/
def execRst4 (s : State) : Result := .next (callTo (restartTarget 4) 1 s)
/-- `RPE`, 0xE8 (R307). -/
def execRpe (s : State) : Result := .next (returnIf .pe s)
/-- `CPE a16`, 0xEC (R298). -/
def execCpe (a16 : Word) (s : State) : Result := .next (callIf .pe a16 s)
/-- `RST 5`, 0xEF (R310). -/
def execRst5 (s : State) : Result := .next (callTo (restartTarget 5) 1 s)
/-- `RP`, 0xF0 (R308). -/
def execRp (s : State) : Result := .next (returnIf .p s)
/-- `CP a16`, 0xF4 (R299). -/
def execCp (a16 : Word) (s : State) : Result := .next (callIf .p a16 s)
/-- `RST 6`, 0xF7 (R310). -/
def execRst6 (s : State) : Result := .next (callTo (restartTarget 6) 1 s)
/-- `RM`, 0xF8 (R309). -/
def execRm (s : State) : Result := .next (returnIf .m s)
/-- `CM a16`, 0xFC (R300). -/
def execCm (a16 : Word) (s : State) : Result := .next (callIf .m a16 s)
/-- `RST 7`, 0xFF (R310). -/
def execRst7 (s : State) : Result := .next (callTo (restartTarget 7) 1 s)

end Sys2Proof.Machine
end

