-- ==== Sys2Proof/Machine/Transfer.lean ====
section
/-! DEFINITION. Data transfer instructions (41_data_transfer.md). None writes a flag, `INTE` or `SP`, but `LXI SP` (R140, R146). -/

namespace Sys2Proof.Machine

/-- `LXI B,d16`, 0x01 (R146). -/
def execLxiB (d16 : Word) (s : State) : Result := .next (advance 3 (writePair16 .bc d16 s))
/-- `STAX B`, 0x02 (R152). -/
def execStaxB (s : State) : Result := .next (advance 1 (writeMem (readPair .bc s) (readReg .a s) s))
/-- `MVI B,d8`, 0x06 (R144). -/
def execMviB (d8 : Byte) (s : State) : Result := .next (loadReg .b d8 2 s)
/-- `LDAX B`, 0x0A (R151). -/
def execLdaxB (s : State) : Result := .next (loadReg .a (readMem (readPair .bc s) s) 1 s)
/-- `MVI C,d8`, 0x0E (R144). -/
def execMviC (d8 : Byte) (s : State) : Result := .next (loadReg .c d8 2 s)
/-- `LXI D,d16`, 0x11 (R146). -/
def execLxiD (d16 : Word) (s : State) : Result := .next (advance 3 (writePair16 .de d16 s))
/-- `STAX D`, 0x12 (R152). -/
def execStaxD (s : State) : Result := .next (advance 1 (writeMem (readPair .de s) (readReg .a s) s))
/-- `MVI D,d8`, 0x16 (R144). -/
def execMviD (d8 : Byte) (s : State) : Result := .next (loadReg .d d8 2 s)
/-- `LDAX D`, 0x1A (R151). -/
def execLdaxD (s : State) : Result := .next (loadReg .a (readMem (readPair .de s) s) 1 s)
/-- `MVI E,d8`, 0x1E (R144). -/
def execMviE (d8 : Byte) (s : State) : Result := .next (loadReg .e d8 2 s)
/-- `LXI H,d16`, 0x21 (R146). -/
def execLxiH (d16 : Word) (s : State) : Result := .next (advance 3 (writePair16 .hl d16 s))
/-- `SHLD a16`, 0x22 (R150). -/
def execShld (a16 : Word) (s : State) : Result := .next (advance 3 (writeMem16 a16 (readPair .hl s) s))
/-- `MVI H,d8`, 0x26 (R144). -/
def execMviH (d8 : Byte) (s : State) : Result := .next (loadReg .h d8 2 s)
/-- `LHLD a16`, 0x2A (R149). -/
def execLhld (a16 : Word) (s : State) : Result := .next (advance 3 (writePair .hl (readMem16 a16 s) s))
/-- `MVI L,d8`, 0x2E (R144). -/
def execMviL (d8 : Byte) (s : State) : Result := .next (loadReg .l d8 2 s)
/-- `LXI SP,d16`, 0x31 (R146). -/
def execLxiSp (d16 : Word) (s : State) : Result := .next (advance 3 (writePair16 .sp d16 s))
/-- `STA a16`, 0x32 (R148). -/
def execSta (a16 : Word) (s : State) : Result := .next (advance 3 (writeMem a16 (readReg .a s) s))
/-- `MVI M,d8`, 0x36 (R145). -/
def execMviM (d8 : Byte) (s : State) : Result := .next (storeAtHl d8 2 s)
/-- `LDA a16`, 0x3A (R147). -/
def execLda (a16 : Word) (s : State) : Result := .next (loadReg .a (readMem a16 s) 3 s)
/-- `MVI A,d8`, 0x3E (R144). -/
def execMviA (d8 : Byte) (s : State) : Result := .next (loadReg .a d8 2 s)
/-- `MOV B,B`, 0x40 (R141). -/
def execMovBB (s : State) : Result := .next (loadReg .b (readReg .b s) 1 s)
/-- `MOV B,C`, 0x41 (R141). -/
def execMovBC (s : State) : Result := .next (loadReg .b (readReg .c s) 1 s)
/-- `MOV B,D`, 0x42 (R141). -/
def execMovBD (s : State) : Result := .next (loadReg .b (readReg .d s) 1 s)
/-- `MOV B,E`, 0x43 (R141). -/
def execMovBE (s : State) : Result := .next (loadReg .b (readReg .e s) 1 s)
/-- `MOV B,H`, 0x44 (R141). -/
def execMovBH (s : State) : Result := .next (loadReg .b (readReg .h s) 1 s)
/-- `MOV B,L`, 0x45 (R141). -/
def execMovBL (s : State) : Result := .next (loadReg .b (readReg .l s) 1 s)
/-- `MOV B,M`, 0x46 (R142). -/
def execMovBM (s : State) : Result := .next (loadReg .b (readAtHl s) 1 s)
/-- `MOV B,A`, 0x47 (R141). -/
def execMovBA (s : State) : Result := .next (loadReg .b (readReg .a s) 1 s)
/-- `MOV C,B`, 0x48 (R141). -/
def execMovCB (s : State) : Result := .next (loadReg .c (readReg .b s) 1 s)
/-- `MOV C,C`, 0x49 (R141). -/
def execMovCC (s : State) : Result := .next (loadReg .c (readReg .c s) 1 s)
/-- `MOV C,D`, 0x4A (R141). -/
def execMovCD (s : State) : Result := .next (loadReg .c (readReg .d s) 1 s)
/-- `MOV C,E`, 0x4B (R141). -/
def execMovCE (s : State) : Result := .next (loadReg .c (readReg .e s) 1 s)
/-- `MOV C,H`, 0x4C (R141). -/
def execMovCH (s : State) : Result := .next (loadReg .c (readReg .h s) 1 s)
/-- `MOV C,L`, 0x4D (R141). -/
def execMovCL (s : State) : Result := .next (loadReg .c (readReg .l s) 1 s)
/-- `MOV C,M`, 0x4E (R142). -/
def execMovCM (s : State) : Result := .next (loadReg .c (readAtHl s) 1 s)
/-- `MOV C,A`, 0x4F (R141). -/
def execMovCA (s : State) : Result := .next (loadReg .c (readReg .a s) 1 s)
/-- `MOV D,B`, 0x50 (R141). -/
def execMovDB (s : State) : Result := .next (loadReg .d (readReg .b s) 1 s)
/-- `MOV D,C`, 0x51 (R141). -/
def execMovDC (s : State) : Result := .next (loadReg .d (readReg .c s) 1 s)
/-- `MOV D,D`, 0x52 (R141). -/
def execMovDD (s : State) : Result := .next (loadReg .d (readReg .d s) 1 s)
/-- `MOV D,E`, 0x53 (R141). -/
def execMovDE (s : State) : Result := .next (loadReg .d (readReg .e s) 1 s)
/-- `MOV D,H`, 0x54 (R141). -/
def execMovDH (s : State) : Result := .next (loadReg .d (readReg .h s) 1 s)
/-- `MOV D,L`, 0x55 (R141). -/
def execMovDL (s : State) : Result := .next (loadReg .d (readReg .l s) 1 s)
/-- `MOV D,M`, 0x56 (R142). -/
def execMovDM (s : State) : Result := .next (loadReg .d (readAtHl s) 1 s)
/-- `MOV D,A`, 0x57 (R141). -/
def execMovDA (s : State) : Result := .next (loadReg .d (readReg .a s) 1 s)
/-- `MOV E,B`, 0x58 (R141). -/
def execMovEB (s : State) : Result := .next (loadReg .e (readReg .b s) 1 s)
/-- `MOV E,C`, 0x59 (R141). -/
def execMovEC (s : State) : Result := .next (loadReg .e (readReg .c s) 1 s)
/-- `MOV E,D`, 0x5A (R141). -/
def execMovED (s : State) : Result := .next (loadReg .e (readReg .d s) 1 s)
/-- `MOV E,E`, 0x5B (R141). -/
def execMovEE (s : State) : Result := .next (loadReg .e (readReg .e s) 1 s)
/-- `MOV E,H`, 0x5C (R141). -/
def execMovEH (s : State) : Result := .next (loadReg .e (readReg .h s) 1 s)
/-- `MOV E,L`, 0x5D (R141). -/
def execMovEL (s : State) : Result := .next (loadReg .e (readReg .l s) 1 s)
/-- `MOV E,M`, 0x5E (R142). -/
def execMovEM (s : State) : Result := .next (loadReg .e (readAtHl s) 1 s)
/-- `MOV E,A`, 0x5F (R141). -/
def execMovEA (s : State) : Result := .next (loadReg .e (readReg .a s) 1 s)
/-- `MOV H,B`, 0x60 (R141). -/
def execMovHB (s : State) : Result := .next (loadReg .h (readReg .b s) 1 s)
/-- `MOV H,C`, 0x61 (R141). -/
def execMovHC (s : State) : Result := .next (loadReg .h (readReg .c s) 1 s)
/-- `MOV H,D`, 0x62 (R141). -/
def execMovHD (s : State) : Result := .next (loadReg .h (readReg .d s) 1 s)
/-- `MOV H,E`, 0x63 (R141). -/
def execMovHE (s : State) : Result := .next (loadReg .h (readReg .e s) 1 s)
/-- `MOV H,H`, 0x64 (R141). -/
def execMovHH (s : State) : Result := .next (loadReg .h (readReg .h s) 1 s)
/-- `MOV H,L`, 0x65 (R141). -/
def execMovHL (s : State) : Result := .next (loadReg .h (readReg .l s) 1 s)
/-- `MOV H,M`, 0x66 (R142). -/
def execMovHM (s : State) : Result := .next (loadReg .h (readAtHl s) 1 s)
/-- `MOV H,A`, 0x67 (R141). -/
def execMovHA (s : State) : Result := .next (loadReg .h (readReg .a s) 1 s)
/-- `MOV L,B`, 0x68 (R141). -/
def execMovLB (s : State) : Result := .next (loadReg .l (readReg .b s) 1 s)
/-- `MOV L,C`, 0x69 (R141). -/
def execMovLC (s : State) : Result := .next (loadReg .l (readReg .c s) 1 s)
/-- `MOV L,D`, 0x6A (R141). -/
def execMovLD (s : State) : Result := .next (loadReg .l (readReg .d s) 1 s)
/-- `MOV L,E`, 0x6B (R141). -/
def execMovLE (s : State) : Result := .next (loadReg .l (readReg .e s) 1 s)
/-- `MOV L,H`, 0x6C (R141). -/
def execMovLH (s : State) : Result := .next (loadReg .l (readReg .h s) 1 s)
/-- `MOV L,L`, 0x6D (R141). -/
def execMovLL (s : State) : Result := .next (loadReg .l (readReg .l s) 1 s)
/-- `MOV L,M`, 0x6E (R142). -/
def execMovLM (s : State) : Result := .next (loadReg .l (readAtHl s) 1 s)
/-- `MOV L,A`, 0x6F (R141). -/
def execMovLA (s : State) : Result := .next (loadReg .l (readReg .a s) 1 s)
/-- `MOV M,B`, 0x70 (R143). -/
def execMovMB (s : State) : Result := .next (storeAtHl (readReg .b s) 1 s)
/-- `MOV M,C`, 0x71 (R143). -/
def execMovMC (s : State) : Result := .next (storeAtHl (readReg .c s) 1 s)
/-- `MOV M,D`, 0x72 (R143). -/
def execMovMD (s : State) : Result := .next (storeAtHl (readReg .d s) 1 s)
/-- `MOV M,E`, 0x73 (R143). -/
def execMovME (s : State) : Result := .next (storeAtHl (readReg .e s) 1 s)
/-- `MOV M,H`, 0x74 (R143). -/
def execMovMH (s : State) : Result := .next (storeAtHl (readReg .h s) 1 s)
/-- `MOV M,L`, 0x75 (R143). -/
def execMovML (s : State) : Result := .next (storeAtHl (readReg .l s) 1 s)
/-- `MOV M,A`, 0x77 (R143). -/
def execMovMA (s : State) : Result := .next (storeAtHl (readReg .a s) 1 s)
/-- `MOV A,B`, 0x78 (R141). -/
def execMovAB (s : State) : Result := .next (loadReg .a (readReg .b s) 1 s)
/-- `MOV A,C`, 0x79 (R141). -/
def execMovAC (s : State) : Result := .next (loadReg .a (readReg .c s) 1 s)
/-- `MOV A,D`, 0x7A (R141). -/
def execMovAD (s : State) : Result := .next (loadReg .a (readReg .d s) 1 s)
/-- `MOV A,E`, 0x7B (R141). -/
def execMovAE (s : State) : Result := .next (loadReg .a (readReg .e s) 1 s)
/-- `MOV A,H`, 0x7C (R141). -/
def execMovAH (s : State) : Result := .next (loadReg .a (readReg .h s) 1 s)
/-- `MOV A,L`, 0x7D (R141). -/
def execMovAL (s : State) : Result := .next (loadReg .a (readReg .l s) 1 s)
/-- `MOV A,M`, 0x7E (R142). -/
def execMovAM (s : State) : Result := .next (loadReg .a (readAtHl s) 1 s)
/-- `MOV A,A`, 0x7F (R141). -/
def execMovAA (s : State) : Result := .next (loadReg .a (readReg .a s) 1 s)
/-- `XCHG`, 0xEB (R153). -/
def execXchg (s : State) : Result := .next (advance 1 (exchangeDeHl s))

end Sys2Proof.Machine
end

