-- ==== Sys2Proof/Decode.lean ====
section
/-! DEFINITION. Decoding bytes to instructions by the 16x16 opcode map of 30_encoding.md (R89), and after it the encoder,
written from the opcode-byte fields of R81 to R88. The two are independent readings of the spec; their agreement is stated
as an obligation. -/

namespace Sys2Proof

/-- What decoding a sequence of bytes gives: an instruction and the bytes after it, or a rejection by name. -/
inductive DecodeResult where
  /-- The instruction at the front, and the bytes that follow it. -/
  | ok (i : Instr) (rest : List Byte)
  /-- There is no opcode byte. -/
  | noOpcodeByte
  /-- The bytes end before the operand bytes of opcode `op`. -/
  | missingOperandByte (op : Byte)
  deriving DecidableEq, Repr

/-- The opcodes of format F2, two bytes long (R80, R89). -/
def twoByteOpcodes : List Byte :=
  [0x06, 0x0E, 0x16, 0x1E, 0x26, 0x2E, 0x36, 0x3E, 0xC6,
   0xCE, 0xD3, 0xD6, 0xDB, 0xDE, 0xE6, 0xEE, 0xF6, 0xFE]

/-- The opcodes of format F3, three bytes long (R80, R89). -/
def threeByteOpcodes : List Byte :=
  [0x01, 0x11, 0x21, 0x22, 0x2A, 0x31, 0x32, 0x3A, 0xC2,
   0xC3, 0xC4, 0xCA, 0xCC, 0xCD, 0xD2, 0xD4, 0xDA, 0xDC,
   0xE2, 0xE4, 0xEA, 0xEC, 0xF2, 0xF4, 0xFA, 0xFC]

/-- The length in bytes of an instruction, a function of its opcode byte alone (R80, R91). -/
def instrLength (op : Byte) : Nat :=
  if twoByteOpcodes.contains op then 2 else if threeByteOpcodes.contains op then 3 else 1

/-- A 16-bit immediate or address from its low byte `b1` and its high byte `b2` (R87). -/
def imm16 (b1 b2 : Byte) : Word := b2 ++ b1

/-- Row 0x of the opcode map (R89), given the immediate byte and the 16-bit immediate. -/
def opcodeRow0 (d8 : Byte) (d16 : Word) : List Instr :=
  [.nop, .lxiB d16, .staxB, .inxB, .inrB, .dcrB, .mviB d8, .rlc,
   .undefined08, .dadB, .ldaxB, .dcxB, .inrC, .dcrC, .mviC d8, .rrc]

/-- Row 1x of the opcode map (R89), given the immediate byte and the 16-bit immediate. -/
def opcodeRow1 (d8 : Byte) (d16 : Word) : List Instr :=
  [.undefined10, .lxiD d16, .staxD, .inxD, .inrD, .dcrD, .mviD d8, .ral,
   .undefined18, .dadD, .ldaxD, .dcxD, .inrE, .dcrE, .mviE d8, .rar]

/-- Row 2x of the opcode map (R89), given the immediate byte and the 16-bit immediate. -/
def opcodeRow2 (d8 : Byte) (d16 : Word) : List Instr :=
  [.undefined20, .lxiH d16, .shld d16, .inxH, .inrH, .dcrH, .mviH d8, .daa,
   .undefined28, .dadH, .lhld d16, .dcxH, .inrL, .dcrL, .mviL d8, .cma]

/-- Row 3x of the opcode map (R89), given the immediate byte and the 16-bit immediate. -/
def opcodeRow3 (d8 : Byte) (d16 : Word) : List Instr :=
  [.undefined30, .lxiSp d16, .sta d16, .inxSp, .inrM, .dcrM, .mviM d8, .stc,
   .undefined38, .dadSp, .lda d16, .dcxSp, .inrA, .dcrA, .mviA d8, .cmc]

/-- Row 4x of the opcode map (R89), given the immediate byte and the 16-bit immediate. -/
def opcodeRow4 (_d8 : Byte) (_d16 : Word) : List Instr :=
  [.movBB, .movBC, .movBD, .movBE, .movBH, .movBL, .movBM, .movBA,
   .movCB, .movCC, .movCD, .movCE, .movCH, .movCL, .movCM, .movCA]

/-- Row 5x of the opcode map (R89), given the immediate byte and the 16-bit immediate. -/
def opcodeRow5 (_d8 : Byte) (_d16 : Word) : List Instr :=
  [.movDB, .movDC, .movDD, .movDE, .movDH, .movDL, .movDM, .movDA,
   .movEB, .movEC, .movED, .movEE, .movEH, .movEL, .movEM, .movEA]

/-- Row 6x of the opcode map (R89), given the immediate byte and the 16-bit immediate. -/
def opcodeRow6 (_d8 : Byte) (_d16 : Word) : List Instr :=
  [.movHB, .movHC, .movHD, .movHE, .movHH, .movHL, .movHM, .movHA,
   .movLB, .movLC, .movLD, .movLE, .movLH, .movLL, .movLM, .movLA]

/-- Row 7x of the opcode map (R89), given the immediate byte and the 16-bit immediate. -/
def opcodeRow7 (_d8 : Byte) (_d16 : Word) : List Instr :=
  [.movMB, .movMC, .movMD, .movME, .movMH, .movML, .hlt, .movMA,
   .movAB, .movAC, .movAD, .movAE, .movAH, .movAL, .movAM, .movAA]

/-- Row 8x of the opcode map (R89), given the immediate byte and the 16-bit immediate. -/
def opcodeRow8 (_d8 : Byte) (_d16 : Word) : List Instr :=
  [.addB, .addC, .addD, .addE, .addH, .addL, .addM, .addA,
   .adcB, .adcC, .adcD, .adcE, .adcH, .adcL, .adcM, .adcA]

/-- Row 9x of the opcode map (R89), given the immediate byte and the 16-bit immediate. -/
def opcodeRow9 (_d8 : Byte) (_d16 : Word) : List Instr :=
  [.subB, .subC, .subD, .subE, .subH, .subL, .subM, .subA,
   .sbbB, .sbbC, .sbbD, .sbbE, .sbbH, .sbbL, .sbbM, .sbbA]

/-- Row Ax of the opcode map (R89), given the immediate byte and the 16-bit immediate. -/
def opcodeRowA (_d8 : Byte) (_d16 : Word) : List Instr :=
  [.anaB, .anaC, .anaD, .anaE, .anaH, .anaL, .anaM, .anaA,
   .xraB, .xraC, .xraD, .xraE, .xraH, .xraL, .xraM, .xraA]

/-- Row Bx of the opcode map (R89), given the immediate byte and the 16-bit immediate. -/
def opcodeRowB (_d8 : Byte) (_d16 : Word) : List Instr :=
  [.oraB, .oraC, .oraD, .oraE, .oraH, .oraL, .oraM, .oraA,
   .cmpB, .cmpC, .cmpD, .cmpE, .cmpH, .cmpL, .cmpM, .cmpA]

/-- Row Cx of the opcode map (R89), given the immediate byte and the 16-bit immediate. -/
def opcodeRowC (d8 : Byte) (d16 : Word) : List Instr :=
  [.rnz, .popB, .jnz d16, .jmp d16, .cnz d16, .pushB, .adi d8, .rst0,
   .rz, .ret, .jz d16, .undefinedCB, .cz d16, .call d16, .aci d8, .rst1]

/-- Row Dx of the opcode map (R89), given the immediate byte and the 16-bit immediate. -/
def opcodeRowD (d8 : Byte) (d16 : Word) : List Instr :=
  [.rnc, .popD, .jnc d16, .outPort d8, .cnc d16, .pushD, .sui d8, .rst2,
   .rc, .undefinedD9, .jc d16, .inPort d8, .cc d16, .undefinedDD, .sbi d8, .rst3]

/-- Row Ex of the opcode map (R89), given the immediate byte and the 16-bit immediate. -/
def opcodeRowE (d8 : Byte) (d16 : Word) : List Instr :=
  [.rpo, .popH, .jpo d16, .xthl, .cpo d16, .pushH, .ani d8, .rst4,
   .rpe, .pchl, .jpe d16, .xchg, .cpe d16, .undefinedED, .xri d8, .rst5]

/-- Row Fx of the opcode map (R89), given the immediate byte and the 16-bit immediate. -/
def opcodeRowF (d8 : Byte) (d16 : Word) : List Instr :=
  [.rp, .popPsw, .jp d16, .di, .cp d16, .pushPsw, .ori d8, .rst6,
   .rm, .sphl, .jm d16, .ei, .cm d16, .undefinedFD, .cpi d8, .rst7]

/-- The opcode map (R89): rows by the high nibble of the opcode, columns by the low nibble. -/
def opcodeMap (d8 : Byte) (d16 : Word) : List (List Instr) :=
  [opcodeRow0 d8 d16, opcodeRow1 d8 d16, opcodeRow2 d8 d16, opcodeRow3 d8 d16,
   opcodeRow4 d8 d16, opcodeRow5 d8 d16, opcodeRow6 d8 d16, opcodeRow7 d8 d16,
   opcodeRow8 d8 d16, opcodeRow9 d8 d16, opcodeRowA d8 d16, opcodeRowB d8 d16,
   opcodeRowC d8 d16, opcodeRowD d8 d16, opcodeRowE d8 d16, opcodeRowF d8 d16]

/-- The instruction whose opcode byte is `op` and whose operand bytes, where it has them, are `b1` and `b2` (R89, R113).
Every opcode byte has an entry in the map, so the defaults are never taken. -/
def decodeOp (op b1 b2 : Byte) : Instr :=
  ((opcodeMap b1 (imm16 b1 b2)).getD (op.toNat / 16) []).getD (op.toNat % 16) .nop

/-- Decoding the instruction at the front of a sequence of bytes: the opcode byte first, then as many operand bytes as
its row has (R91). -/
def decode : List Byte → DecodeResult
  | [] => .noOpcodeByte
  | op :: rest =>
    if instrLength op = 1 then .ok (decodeOp op 0 0) rest
    else if instrLength op = 2 then
      match rest with
      | b1 :: rest' => .ok (decodeOp op b1 0) rest'
      | [] => .missingOperandByte op
    else
      match rest with
      | b1 :: b2 :: rest' => .ok (decodeOp op b1 b2) rest'
      | _ => .missingOperandByte op

/-- The low `nbits` bits of `w` laid out as three bytes, the first byte least significant, zeros above. -/
def tableWordBytes (nbits w : Nat) : List Byte :=
  [BitVec.ofNat 8 (w % 2 ^ nbits), BitVec.ofNat 8 (w % 2 ^ nbits / 2 ^ 8), BitVec.ofNat 8 (w % 2 ^ nbits / 2 ^ 16)]

/-- The instruction the decoder reads from an instruction whose bits are `w`, numbered as spec/opcode_table.json does. -/
def decodeTableWord (nbits w : Nat) : Option Instr :=
  match decode (tableWordBytes nbits w) with
  | .ok i _ => some i
  | .noOpcodeByte => none
  | .missingOperandByte _ => none

/-! ## The encoder, from the fields of the opcode byte -/

/-- The code of a register in the fields `ddd` and `sss` (R82). -/
def regCode : Reg → BitVec 3
  | .b => 0b000 | .c => 0b001 | .d => 0b010 | .e => 0b011 | .h => 0b100 | .l => 0b101 | .a => 0b111

/-- The code of the operand `M` in the fields `ddd` and `sss` (R82). -/
def codeM : BitVec 3 := 0b110

/-- The code of a pair in the field `rp` (R83). -/
def pairCode : RegPair → BitVec 2
  | .bc => 0b00 | .de => 0b01 | .hl => 0b10

/-- The code of a pair or SP in the field `rp` of LXI, INX, DCX and DAD (R83). -/
def pair16Code : Pair16 → BitVec 2
  | .bc => 0b00 | .de => 0b01 | .hl => 0b10 | .sp => 0b11

/-- The code of PSW in the field `rp` of PUSH and POP (R83). -/
def codePsw : BitVec 2 := 0b11

/-- The code of a condition in the field `ccc` (R84). -/
def condCode : Cond → BitVec 3
  | .nz => 0b000 | .z => 0b001 | .nc => 0b010 | .c => 0b011 | .po => 0b100 | .pe => 0b101 | .p => 0b110 | .m => 0b111

/-- The code of an ALU operation in the field `alu` (R85). -/
def aluCode : AluOp → BitVec 3
  | .add => 0b000 | .adc => 0b001 | .sub => 0b010 | .sbb => 0b011 | .ana => 0b100 | .xra => 0b101 | .ora => 0b110 | .cmp => 0b111

/-- `MOV`: `01 ddd sss` (R141 to R143). -/
def opMov (ddd sss : BitVec 3) : Byte := 0b01#2 ++ ddd ++ sss
/-- `MVI`: `00 ddd 110` (R144, R145). -/
def opMvi (ddd : BitVec 3) : Byte := 0b00#2 ++ ddd ++ 0b110#3
/-- `INR`: `00 ddd 100` (R188, R189). -/
def opInr (ddd : BitVec 3) : Byte := 0b00#2 ++ ddd ++ 0b100#3
/-- `DCR`: `00 ddd 101` (R190, R191). -/
def opDcr (ddd : BitVec 3) : Byte := 0b00#2 ++ ddd ++ 0b101#3
/-- The register and `M` forms of the ALU: `10 alu sss` (R85). -/
def opAlu (op : AluOp) (sss : BitVec 3) : Byte := 0b10#2 ++ aluCode op ++ sss
/-- The immediate forms of the ALU: `11 alu 110` (R85). -/
def opAluImm (op : AluOp) : Byte := 0b11#2 ++ aluCode op ++ 0b110#3
/-- `LXI`: `00 rp 0001` (R146). -/
def opLxi (rp : BitVec 2) : Byte := 0b00#2 ++ rp ++ 0b0001#4
/-- `INX`: `00 rp 0011` (R192). -/
def opInx (rp : BitVec 2) : Byte := 0b00#2 ++ rp ++ 0b0011#4
/-- `DCX`: `00 rp 1011` (R193). -/
def opDcx (rp : BitVec 2) : Byte := 0b00#2 ++ rp ++ 0b1011#4
/-- `DAD`: `00 rp 1001` (R194). -/
def opDad (rp : BitVec 2) : Byte := 0b00#2 ++ rp ++ 0b1001#4
/-- `LDAX`: `000 r 1010`, the field `rp` with its high bit 0 (R151). -/
def opLdax (rp : BitVec 2) : Byte := 0b00#2 ++ rp ++ 0b1010#4
/-- `STAX`: `000 r 0010`, the field `rp` with its high bit 0 (R152). -/
def opStax (rp : BitVec 2) : Byte := 0b00#2 ++ rp ++ 0b0010#4
/-- `PUSH`: `11 rp 0101` (R331, R332). -/
def opPush (rp : BitVec 2) : Byte := 0b11#2 ++ rp ++ 0b0101#4
/-- `POP`: `11 rp 0001` (R333, R334). -/
def opPop (rp : BitVec 2) : Byte := 0b11#2 ++ rp ++ 0b0001#4
/-- `Jcc`: `11 ccc 010` (R262 to R269). -/
def opJcc (ccc : BitVec 3) : Byte := 0b11#2 ++ ccc ++ 0b010#3
/-- `Ccc`: `11 ccc 100` (R293 to R300). -/
def opCcc (ccc : BitVec 3) : Byte := 0b11#2 ++ ccc ++ 0b100#3
/-- `Rcc`: `11 ccc 000` (R302 to R309). -/
def opRcc (ccc : BitVec 3) : Byte := 0b11#2 ++ ccc ++ 0b000#3
/-- `RST`: `11 nnn 111` (R310). -/
def opRst (nnn : BitVec 3) : Byte := 0b11#2 ++ nnn ++ 0b111#3

/-- The opcode byte of an instruction, from the fields of R81. -/
def opcodeOf : Instr → Byte
  | .nop => 0b00000000
  | .lxiB _ => opLxi (pair16Code .bc)
  | .staxB => opStax (pairCode .bc)
  | .inxB => opInx (pair16Code .bc)
  | .inrB => opInr (regCode .b)
  | .dcrB => opDcr (regCode .b)
  | .mviB _ => opMvi (regCode .b)
  | .rlc => 0b00000111
  | .undefined08 => 0x08
  | .dadB => opDad (pair16Code .bc)
  | .ldaxB => opLdax (pairCode .bc)
  | .dcxB => opDcx (pair16Code .bc)
  | .inrC => opInr (regCode .c)
  | .dcrC => opDcr (regCode .c)
  | .mviC _ => opMvi (regCode .c)
  | .rrc => 0b00001111
  | .undefined10 => 0x10
  | .lxiD _ => opLxi (pair16Code .de)
  | .staxD => opStax (pairCode .de)
  | .inxD => opInx (pair16Code .de)
  | .inrD => opInr (regCode .d)
  | .dcrD => opDcr (regCode .d)
  | .mviD _ => opMvi (regCode .d)
  | .ral => 0b00010111
  | .undefined18 => 0x18
  | .dadD => opDad (pair16Code .de)
  | .ldaxD => opLdax (pairCode .de)
  | .dcxD => opDcx (pair16Code .de)
  | .inrE => opInr (regCode .e)
  | .dcrE => opDcr (regCode .e)
  | .mviE _ => opMvi (regCode .e)
  | .rar => 0b00011111
  | .undefined20 => 0x20
  | .lxiH _ => opLxi (pair16Code .hl)
  | .shld _ => 0b00100010
  | .inxH => opInx (pair16Code .hl)
  | .inrH => opInr (regCode .h)
  | .dcrH => opDcr (regCode .h)
  | .mviH _ => opMvi (regCode .h)
  | .daa => 0b00100111
  | .undefined28 => 0x28
  | .dadH => opDad (pair16Code .hl)
  | .lhld _ => 0b00101010
  | .dcxH => opDcx (pair16Code .hl)
  | .inrL => opInr (regCode .l)
  | .dcrL => opDcr (regCode .l)
  | .mviL _ => opMvi (regCode .l)
  | .cma => 0b00101111
  | .undefined30 => 0x30
  | .lxiSp _ => opLxi (pair16Code .sp)
  | .sta _ => 0b00110010
  | .inxSp => opInx (pair16Code .sp)
  | .inrM => opInr codeM
  | .dcrM => opDcr codeM
  | .mviM _ => opMvi codeM
  | .stc => 0b00110111
  | .undefined38 => 0x38
  | .dadSp => opDad (pair16Code .sp)
  | .lda _ => 0b00111010
  | .dcxSp => opDcx (pair16Code .sp)
  | .inrA => opInr (regCode .a)
  | .dcrA => opDcr (regCode .a)
  | .mviA _ => opMvi (regCode .a)
  | .cmc => 0b00111111
  | .movBB => opMov (regCode .b) (regCode .b)
  | .movBC => opMov (regCode .b) (regCode .c)
  | .movBD => opMov (regCode .b) (regCode .d)
  | .movBE => opMov (regCode .b) (regCode .e)
  | .movBH => opMov (regCode .b) (regCode .h)
  | .movBL => opMov (regCode .b) (regCode .l)
  | .movBM => opMov (regCode .b) codeM
  | .movBA => opMov (regCode .b) (regCode .a)
  | .movCB => opMov (regCode .c) (regCode .b)
  | .movCC => opMov (regCode .c) (regCode .c)
  | .movCD => opMov (regCode .c) (regCode .d)
  | .movCE => opMov (regCode .c) (regCode .e)
  | .movCH => opMov (regCode .c) (regCode .h)
  | .movCL => opMov (regCode .c) (regCode .l)
  | .movCM => opMov (regCode .c) codeM
  | .movCA => opMov (regCode .c) (regCode .a)
  | .movDB => opMov (regCode .d) (regCode .b)
  | .movDC => opMov (regCode .d) (regCode .c)
  | .movDD => opMov (regCode .d) (regCode .d)
  | .movDE => opMov (regCode .d) (regCode .e)
  | .movDH => opMov (regCode .d) (regCode .h)
  | .movDL => opMov (regCode .d) (regCode .l)
  | .movDM => opMov (regCode .d) codeM
  | .movDA => opMov (regCode .d) (regCode .a)
  | .movEB => opMov (regCode .e) (regCode .b)
  | .movEC => opMov (regCode .e) (regCode .c)
  | .movED => opMov (regCode .e) (regCode .d)
  | .movEE => opMov (regCode .e) (regCode .e)
  | .movEH => opMov (regCode .e) (regCode .h)
  | .movEL => opMov (regCode .e) (regCode .l)
  | .movEM => opMov (regCode .e) codeM
  | .movEA => opMov (regCode .e) (regCode .a)
  | .movHB => opMov (regCode .h) (regCode .b)
  | .movHC => opMov (regCode .h) (regCode .c)
  | .movHD => opMov (regCode .h) (regCode .d)
  | .movHE => opMov (regCode .h) (regCode .e)
  | .movHH => opMov (regCode .h) (regCode .h)
  | .movHL => opMov (regCode .h) (regCode .l)
  | .movHM => opMov (regCode .h) codeM
  | .movHA => opMov (regCode .h) (regCode .a)
  | .movLB => opMov (regCode .l) (regCode .b)
  | .movLC => opMov (regCode .l) (regCode .c)
  | .movLD => opMov (regCode .l) (regCode .d)
  | .movLE => opMov (regCode .l) (regCode .e)
  | .movLH => opMov (regCode .l) (regCode .h)
  | .movLL => opMov (regCode .l) (regCode .l)
  | .movLM => opMov (regCode .l) codeM
  | .movLA => opMov (regCode .l) (regCode .a)
  | .movMB => opMov codeM (regCode .b)
  | .movMC => opMov codeM (regCode .c)
  | .movMD => opMov codeM (regCode .d)
  | .movME => opMov codeM (regCode .e)
  | .movMH => opMov codeM (regCode .h)
  | .movML => opMov codeM (regCode .l)
  | .hlt => 0b01110110
  | .movMA => opMov codeM (regCode .a)
  | .movAB => opMov (regCode .a) (regCode .b)
  | .movAC => opMov (regCode .a) (regCode .c)
  | .movAD => opMov (regCode .a) (regCode .d)
  | .movAE => opMov (regCode .a) (regCode .e)
  | .movAH => opMov (regCode .a) (regCode .h)
  | .movAL => opMov (regCode .a) (regCode .l)
  | .movAM => opMov (regCode .a) codeM
  | .movAA => opMov (regCode .a) (regCode .a)
  | .addB => opAlu .add (regCode .b)
  | .addC => opAlu .add (regCode .c)
  | .addD => opAlu .add (regCode .d)
  | .addE => opAlu .add (regCode .e)
  | .addH => opAlu .add (regCode .h)
  | .addL => opAlu .add (regCode .l)
  | .addM => opAlu .add codeM
  | .addA => opAlu .add (regCode .a)
  | .adcB => opAlu .adc (regCode .b)
  | .adcC => opAlu .adc (regCode .c)
  | .adcD => opAlu .adc (regCode .d)
  | .adcE => opAlu .adc (regCode .e)
  | .adcH => opAlu .adc (regCode .h)
  | .adcL => opAlu .adc (regCode .l)
  | .adcM => opAlu .adc codeM
  | .adcA => opAlu .adc (regCode .a)
  | .subB => opAlu .sub (regCode .b)
  | .subC => opAlu .sub (regCode .c)
  | .subD => opAlu .sub (regCode .d)
  | .subE => opAlu .sub (regCode .e)
  | .subH => opAlu .sub (regCode .h)
  | .subL => opAlu .sub (regCode .l)
  | .subM => opAlu .sub codeM
  | .subA => opAlu .sub (regCode .a)
  | .sbbB => opAlu .sbb (regCode .b)
  | .sbbC => opAlu .sbb (regCode .c)
  | .sbbD => opAlu .sbb (regCode .d)
  | .sbbE => opAlu .sbb (regCode .e)
  | .sbbH => opAlu .sbb (regCode .h)
  | .sbbL => opAlu .sbb (regCode .l)
  | .sbbM => opAlu .sbb codeM
  | .sbbA => opAlu .sbb (regCode .a)
  | .anaB => opAlu .ana (regCode .b)
  | .anaC => opAlu .ana (regCode .c)
  | .anaD => opAlu .ana (regCode .d)
  | .anaE => opAlu .ana (regCode .e)
  | .anaH => opAlu .ana (regCode .h)
  | .anaL => opAlu .ana (regCode .l)
  | .anaM => opAlu .ana codeM
  | .anaA => opAlu .ana (regCode .a)
  | .xraB => opAlu .xra (regCode .b)
  | .xraC => opAlu .xra (regCode .c)
  | .xraD => opAlu .xra (regCode .d)
  | .xraE => opAlu .xra (regCode .e)
  | .xraH => opAlu .xra (regCode .h)
  | .xraL => opAlu .xra (regCode .l)
  | .xraM => opAlu .xra codeM
  | .xraA => opAlu .xra (regCode .a)
  | .oraB => opAlu .ora (regCode .b)
  | .oraC => opAlu .ora (regCode .c)
  | .oraD => opAlu .ora (regCode .d)
  | .oraE => opAlu .ora (regCode .e)
  | .oraH => opAlu .ora (regCode .h)
  | .oraL => opAlu .ora (regCode .l)
  | .oraM => opAlu .ora codeM
  | .oraA => opAlu .ora (regCode .a)
  | .cmpB => opAlu .cmp (regCode .b)
  | .cmpC => opAlu .cmp (regCode .c)
  | .cmpD => opAlu .cmp (regCode .d)
  | .cmpE => opAlu .cmp (regCode .e)
  | .cmpH => opAlu .cmp (regCode .h)
  | .cmpL => opAlu .cmp (regCode .l)
  | .cmpM => opAlu .cmp codeM
  | .cmpA => opAlu .cmp (regCode .a)
  | .rnz => opRcc (condCode .nz)
  | .popB => opPop (pairCode .bc)
  | .jnz _ => opJcc (condCode .nz)
  | .jmp _ => 0b11000011
  | .cnz _ => opCcc (condCode .nz)
  | .pushB => opPush (pairCode .bc)
  | .adi _ => opAluImm .add
  | .rst0 => opRst 0
  | .rz => opRcc (condCode .z)
  | .ret => 0b11001001
  | .jz _ => opJcc (condCode .z)
  | .undefinedCB => 0xCB
  | .cz _ => opCcc (condCode .z)
  | .call _ => 0b11001101
  | .aci _ => opAluImm .adc
  | .rst1 => opRst 1
  | .rnc => opRcc (condCode .nc)
  | .popD => opPop (pairCode .de)
  | .jnc _ => opJcc (condCode .nc)
  | .outPort _ => 0b11010011
  | .cnc _ => opCcc (condCode .nc)
  | .pushD => opPush (pairCode .de)
  | .sui _ => opAluImm .sub
  | .rst2 => opRst 2
  | .rc => opRcc (condCode .c)
  | .undefinedD9 => 0xD9
  | .jc _ => opJcc (condCode .c)
  | .inPort _ => 0b11011011
  | .cc _ => opCcc (condCode .c)
  | .undefinedDD => 0xDD
  | .sbi _ => opAluImm .sbb
  | .rst3 => opRst 3
  | .rpo => opRcc (condCode .po)
  | .popH => opPop (pairCode .hl)
  | .jpo _ => opJcc (condCode .po)
  | .xthl => 0b11100011
  | .cpo _ => opCcc (condCode .po)
  | .pushH => opPush (pairCode .hl)
  | .ani _ => opAluImm .ana
  | .rst4 => opRst 4
  | .rpe => opRcc (condCode .pe)
  | .pchl => 0b11101001
  | .jpe _ => opJcc (condCode .pe)
  | .xchg => 0b11101011
  | .cpe _ => opCcc (condCode .pe)
  | .undefinedED => 0xED
  | .xri _ => opAluImm .xra
  | .rst5 => opRst 5
  | .rp => opRcc (condCode .p)
  | .popPsw => opPop codePsw
  | .jp _ => opJcc (condCode .p)
  | .di => 0b11110011
  | .cp _ => opCcc (condCode .p)
  | .pushPsw => opPush codePsw
  | .ori _ => opAluImm .ora
  | .rst6 => opRst 6
  | .rm => opRcc (condCode .m)
  | .sphl => 0b11111001
  | .jm _ => opJcc (condCode .m)
  | .ei => 0b11111011
  | .cm _ => opCcc (condCode .m)
  | .undefinedFD => 0xFD
  | .cpi _ => opAluImm .cmp
  | .rst7 => opRst 7

/-- The operand bytes of a 16-bit immediate: the low byte first (R87). -/
def imm16Bytes (v : Word) : List Byte := [v.extractLsb' 0 8, v.extractLsb' 8 8]

/-- The bytes of an instruction after its opcode byte (R80, R86, R87). -/
def operandBytes : Instr → List Byte
  | .lxiB d16 => imm16Bytes d16
  | .mviB d8 => [d8]
  | .mviC d8 => [d8]
  | .lxiD d16 => imm16Bytes d16
  | .mviD d8 => [d8]
  | .mviE d8 => [d8]
  | .lxiH d16 => imm16Bytes d16
  | .shld a16 => imm16Bytes a16
  | .mviH d8 => [d8]
  | .lhld a16 => imm16Bytes a16
  | .mviL d8 => [d8]
  | .lxiSp d16 => imm16Bytes d16
  | .sta a16 => imm16Bytes a16
  | .mviM d8 => [d8]
  | .lda a16 => imm16Bytes a16
  | .mviA d8 => [d8]
  | .jnz a16 => imm16Bytes a16
  | .jmp a16 => imm16Bytes a16
  | .cnz a16 => imm16Bytes a16
  | .adi d8 => [d8]
  | .jz a16 => imm16Bytes a16
  | .cz a16 => imm16Bytes a16
  | .call a16 => imm16Bytes a16
  | .aci d8 => [d8]
  | .jnc a16 => imm16Bytes a16
  | .outPort port => [port]
  | .cnc a16 => imm16Bytes a16
  | .sui d8 => [d8]
  | .jc a16 => imm16Bytes a16
  | .inPort port => [port]
  | .cc a16 => imm16Bytes a16
  | .sbi d8 => [d8]
  | .jpo a16 => imm16Bytes a16
  | .cpo a16 => imm16Bytes a16
  | .ani d8 => [d8]
  | .jpe a16 => imm16Bytes a16
  | .cpe a16 => imm16Bytes a16
  | .xri d8 => [d8]
  | .jp a16 => imm16Bytes a16
  | .cp a16 => imm16Bytes a16
  | .ori d8 => [d8]
  | .jm a16 => imm16Bytes a16
  | .cm a16 => imm16Bytes a16
  | .cpi d8 => [d8]
  | .nop | .staxB | .inxB | .inrB | .dcrB | .rlc | .undefined08 | .dadB | .ldaxB | .dcxB
  | .inrC | .dcrC | .rrc | .undefined10 | .staxD | .inxD | .inrD | .dcrD | .ral | .undefined18
  | .dadD | .ldaxD | .dcxD | .inrE | .dcrE | .rar | .undefined20 | .inxH | .inrH | .dcrH
  | .daa | .undefined28 | .dadH | .dcxH | .inrL | .dcrL | .cma | .undefined30 | .inxSp | .inrM
  | .dcrM | .stc | .undefined38 | .dadSp | .dcxSp | .inrA | .dcrA | .cmc | .movBB | .movBC
  | .movBD | .movBE | .movBH | .movBL | .movBM | .movBA | .movCB | .movCC | .movCD | .movCE
  | .movCH | .movCL | .movCM | .movCA | .movDB | .movDC | .movDD | .movDE | .movDH | .movDL
  | .movDM | .movDA | .movEB | .movEC | .movED | .movEE | .movEH | .movEL | .movEM | .movEA
  | .movHB | .movHC | .movHD | .movHE | .movHH | .movHL | .movHM | .movHA | .movLB | .movLC
  | .movLD | .movLE | .movLH | .movLL | .movLM | .movLA | .movMB | .movMC | .movMD | .movME
  | .movMH | .movML | .hlt | .movMA | .movAB | .movAC | .movAD | .movAE | .movAH | .movAL
  | .movAM | .movAA | .addB | .addC | .addD | .addE | .addH | .addL | .addM | .addA
  | .adcB | .adcC | .adcD | .adcE | .adcH | .adcL | .adcM | .adcA | .subB | .subC
  | .subD | .subE | .subH | .subL | .subM | .subA | .sbbB | .sbbC | .sbbD | .sbbE
  | .sbbH | .sbbL | .sbbM | .sbbA | .anaB | .anaC | .anaD | .anaE | .anaH | .anaL
  | .anaM | .anaA | .xraB | .xraC | .xraD | .xraE | .xraH | .xraL | .xraM | .xraA
  | .oraB | .oraC | .oraD | .oraE | .oraH | .oraL | .oraM | .oraA | .cmpB | .cmpC
  | .cmpD | .cmpE | .cmpH | .cmpL | .cmpM | .cmpA | .rnz | .popB | .pushB | .rst0
  | .rz | .ret | .undefinedCB | .rst1 | .rnc | .popD | .pushD | .rst2 | .rc | .undefinedD9
  | .undefinedDD | .rst3 | .rpo | .popH | .xthl | .pushH | .rst4 | .rpe | .pchl | .xchg
  | .undefinedED | .rst5 | .rp | .popPsw | .di | .pushPsw | .rst6 | .rm | .sphl | .ei
  | .undefinedFD | .rst7 => []

/-- The bytes of an instruction (R80). -/
def encode (i : Instr) : List Byte := opcodeOf i :: operandBytes i

end Sys2Proof
end

