-- ==== Sys2Proof/Machine/Fetch.lean ====
section
/-! DEFINITION. The boundary check and the fetch of one instruction (40_engine_cycle.md). -/

namespace Sys2Proof.Machine

/-- The boundary check: `PC`, as an unsigned number, is at or above `IMAGE_END` (R111). -/
def atImageEnd (s : State) : Bool := decide (s.imageEnd ≤ s.pc.toNat)

/-- The end of a run at the image boundary: `status <- Boundary` (R111). -/
def endAtBoundary (s : State) : State := setStatus .boundary s

/-- The opcode byte of the next instruction (R112). -/
def fetchOpcode (s : State) : Byte := readMem s.pc s

/-- The next instruction: its opcode byte, then `b1` and `b2` where its width has them, all read before it executes, at
addresses that wrap (R112, R113, R116, R121). -/
def fetchInstr (s : State) : Instr :=
  decodeOp (fetchOpcode s)
    (if 2 ≤ instrLength (fetchOpcode s) then readMem (s.pc + 1) s else 0)
    (if 3 ≤ instrLength (fetchOpcode s) then readMem (s.pc + 2) s else 0)

/-- The bytes of `w` stored at `PC` and the two addresses after it, the run going on and the program counter inside the
image: what the fetch needs to run the instruction whose bits are `w` next (log 1). -/
def placeInstruction (nbits w : Nat) (s : State) : State :=
  let stored := (tableWordBytes nbits w).zipIdx.foldl (fun t vk => writeMem (s.pc + BitVec.ofNat 16 vk.2) vk.1 t) s
  { stored with
    status := .running,
    imageEnd := if s.pc.toNat < s.imageEnd then s.imageEnd else min (s.pc.toNat + 3) Config.memorySize }

end Sys2Proof.Machine
end

