-- ==== Sys2Proof/Machine/Cycle.lean ====
section
/-! DEFINITION. One cycle of the engine: the boundary check and the step of R122. -/

namespace Sys2Proof.Machine

/-- One cycle. A running machine at the image boundary ends its run (R111); else it fetches, and executes what it fetched,
or raises `UnimplementedOpcode` for an opcode outside `IMPLEMENTED` (R114, R122). A run that has ended takes no step
(R35, R124; log 4). -/
def cycle (s : State) : Result :=
  match s.status with
  | .running =>
    if atImageEnd s then .next (endAtBoundary s)
    else if Config.implemented (fetchOpcode s) then exec (fetchInstr s) s
    else .next (raiseUnimplemented (fetchOpcode s) s)
  | .boundary => .refused .stepAfterBoundary
  | .halted => .refused .stepAfterHalt
  | .fault addr op => .fault (.unimplementedOpcode addr op)

end Sys2Proof.Machine
end

