-- ==== Sys2Proof/Machine/Step.lean ====
section
/-! DEFINITION. One step of the machine, and how the host places one instruction for it. -/

namespace Sys2Proof.Machine

/-- One step: the boundary check, then fetch, decode and execute (R111, R122). -/
def step (s : State) : Host.Outcome State Fault Refusal := cycle s

/-- `s` with the instruction whose bits are `w`, numbered as spec/opcode_table.json does, stored where `step` fetches its
next instruction, so that the next step runs it. It stands for the host's load of a program (R401; log 1). -/
def State.withFetchWord (s : State) (nbits w : Nat) : State := placeInstruction nbits w s

end Sys2Proof.Machine
end

