-- ==== Sys2Proof/Families.lean ====
section
/-! DEFINITION. The instruction families, as the rules name them: each function answers the instruction of a family with
the given operands, so that a statement can speak of `MOV d,r` for all `d` and `r`. -/

namespace Sys2Proof

/-- `MOV d,r` between registers (R141). -/
def Instr.ofMov : Reg → Reg → Instr
  | .b, .b => .movBB | .b, .c => .movBC | .b, .d => .movBD | .b, .e => .movBE
  | .b, .h => .movBH | .b, .l => .movBL | .b, .a => .movBA | .c, .b => .movCB
  | .c, .c => .movCC | .c, .d => .movCD | .c, .e => .movCE | .c, .h => .movCH
  | .c, .l => .movCL | .c, .a => .movCA | .d, .b => .movDB | .d, .c => .movDC
  | .d, .d => .movDD | .d, .e => .movDE | .d, .h => .movDH | .d, .l => .movDL
  | .d, .a => .movDA | .e, .b => .movEB | .e, .c => .movEC | .e, .d => .movED
  | .e, .e => .movEE | .e, .h => .movEH | .e, .l => .movEL | .e, .a => .movEA
  | .h, .b => .movHB | .h, .c => .movHC | .h, .d => .movHD | .h, .e => .movHE
  | .h, .h => .movHH | .h, .l => .movHL | .h, .a => .movHA | .l, .b => .movLB
  | .l, .c => .movLC | .l, .d => .movLD | .l, .e => .movLE | .l, .h => .movLH
  | .l, .l => .movLL | .l, .a => .movLA | .a, .b => .movAB | .a, .c => .movAC
  | .a, .d => .movAD | .a, .e => .movAE | .a, .h => .movAH | .a, .l => .movAL
  | .a, .a => .movAA

/-- `MOV r,M` (R142). -/
def Instr.ofMovFromMem : Reg → Instr
  | .b => .movBM | .c => .movCM | .d => .movDM | .e => .movEM
  | .h => .movHM | .l => .movLM | .a => .movAM

/-- `MOV M,r` (R143). -/
def Instr.ofMovToMem : Reg → Instr
  | .b => .movMB | .c => .movMC | .d => .movMD | .e => .movME
  | .h => .movMH | .l => .movML | .a => .movMA

/-- `MVI r,d8` (R144). -/
def Instr.ofMvi (r : Reg) (d8 : Byte) : Instr :=
  match r with
  | .b => .mviB d8 | .c => .mviC d8 | .d => .mviD d8 | .e => .mviE d8
  | .h => .mviH d8 | .l => .mviL d8 | .a => .mviA d8

/-- `LXI rp,d16` (R146). -/
def Instr.ofLxi (p : Pair16) (d16 : Word) : Instr :=
  match p with
  | .bc => .lxiB d16 | .de => .lxiD d16 | .hl => .lxiH d16 | .sp => .lxiSp d16

/-- `INX rp` (R192). -/
def Instr.ofInx : Pair16 → Instr
  | .bc => .inxB | .de => .inxD | .hl => .inxH | .sp => .inxSp

/-- `DCX rp` (R193). -/
def Instr.ofDcx : Pair16 → Instr
  | .bc => .dcxB | .de => .dcxD | .hl => .dcxH | .sp => .dcxSp

/-- `DAD rp` (R194). -/
def Instr.ofDad : Pair16 → Instr
  | .bc => .dadB | .de => .dadD | .hl => .dadH | .sp => .dadSp

/-- `INR r` (R188). -/
def Instr.ofInr : Reg → Instr
  | .b => .inrB | .c => .inrC | .d => .inrD | .e => .inrE
  | .h => .inrH | .l => .inrL | .a => .inrA

/-- `DCR r` (R190). -/
def Instr.ofDcr : Reg → Instr
  | .b => .dcrB | .c => .dcrC | .d => .dcrD | .e => .dcrE
  | .h => .dcrH | .l => .dcrL | .a => .dcrA

/-- `PUSH rp` of a register pair (R331). -/
def Instr.ofPush : RegPair → Instr
  | .bc => .pushB | .de => .pushD | .hl => .pushH

/-- `POP rp` of a register pair (R333). -/
def Instr.ofPop : RegPair → Instr
  | .bc => .popB | .de => .popD | .hl => .popH

/-- The register, `M` and immediate forms of an ALU operation (R85). -/
def Instr.ofAlu : AluOp → Src → Instr
  | .add, .reg .b => .addB | .add, .reg .c => .addC | .add, .reg .d => .addD | .add, .reg .e => .addE
  | .add, .reg .h => .addH | .add, .reg .l => .addL | .add, .reg .a => .addA | .add, .mem => .addM
  | .add, .imm v => .adi v | .adc, .reg .b => .adcB | .adc, .reg .c => .adcC | .adc, .reg .d => .adcD
  | .adc, .reg .e => .adcE | .adc, .reg .h => .adcH | .adc, .reg .l => .adcL | .adc, .reg .a => .adcA
  | .adc, .mem => .adcM | .adc, .imm v => .aci v | .sub, .reg .b => .subB | .sub, .reg .c => .subC
  | .sub, .reg .d => .subD | .sub, .reg .e => .subE | .sub, .reg .h => .subH | .sub, .reg .l => .subL
  | .sub, .reg .a => .subA | .sub, .mem => .subM | .sub, .imm v => .sui v | .sbb, .reg .b => .sbbB
  | .sbb, .reg .c => .sbbC | .sbb, .reg .d => .sbbD | .sbb, .reg .e => .sbbE | .sbb, .reg .h => .sbbH
  | .sbb, .reg .l => .sbbL | .sbb, .reg .a => .sbbA | .sbb, .mem => .sbbM | .sbb, .imm v => .sbi v
  | .ana, .reg .b => .anaB | .ana, .reg .c => .anaC | .ana, .reg .d => .anaD | .ana, .reg .e => .anaE
  | .ana, .reg .h => .anaH | .ana, .reg .l => .anaL | .ana, .reg .a => .anaA | .ana, .mem => .anaM
  | .ana, .imm v => .ani v | .xra, .reg .b => .xraB | .xra, .reg .c => .xraC | .xra, .reg .d => .xraD
  | .xra, .reg .e => .xraE | .xra, .reg .h => .xraH | .xra, .reg .l => .xraL | .xra, .reg .a => .xraA
  | .xra, .mem => .xraM | .xra, .imm v => .xri v | .ora, .reg .b => .oraB | .ora, .reg .c => .oraC
  | .ora, .reg .d => .oraD | .ora, .reg .e => .oraE | .ora, .reg .h => .oraH | .ora, .reg .l => .oraL
  | .ora, .reg .a => .oraA | .ora, .mem => .oraM | .ora, .imm v => .ori v | .cmp, .reg .b => .cmpB
  | .cmp, .reg .c => .cmpC | .cmp, .reg .d => .cmpD | .cmp, .reg .e => .cmpE | .cmp, .reg .h => .cmpH
  | .cmp, .reg .l => .cmpL | .cmp, .reg .a => .cmpA | .cmp, .mem => .cmpM | .cmp, .imm v => .cpi v

/-- `Jcc a16` (R262 to R269). -/
def Instr.ofJcc (cond : Cond) (a16 : Word) : Instr :=
  match cond with
  | .nz => .jnz a16 | .z => .jz a16 | .nc => .jnc a16 | .c => .jc a16
  | .po => .jpo a16 | .pe => .jpe a16 | .p => .jp a16 | .m => .jm a16

/-- `Ccc a16` (R293 to R300). -/
def Instr.ofCcc (cond : Cond) (a16 : Word) : Instr :=
  match cond with
  | .nz => .cnz a16 | .z => .cz a16 | .nc => .cnc a16 | .c => .cc a16
  | .po => .cpo a16 | .pe => .cpe a16 | .p => .cp a16 | .m => .cm a16

/-- `Rcc` (R302 to R309). -/
def Instr.ofRcc : Cond → Instr
  | .nz => .rnz | .z => .rz | .nc => .rnc | .c => .rc
  | .po => .rpo | .pe => .rpe | .p => .rp | .m => .rm

/-- `RST n` (R310). -/
def Instr.ofRst (nnn : BitVec 3) : Instr :=
  match nnn.toNat with
  | 0 => .rst0 | 1 => .rst1 | 2 => .rst2 | 3 => .rst3
  | 4 => .rst4 | 5 => .rst5 | 6 => .rst6 | _ => .rst7

/-- The rows UNDEFINED: the instruction that stands for each undefined opcode value (R90). -/
def Instr.undefinedRows : List (Byte × Instr) :=
  [(0x08, .undefined08), (0x10, .undefined10), (0x18, .undefined18), (0x20, .undefined20),
   (0x28, .undefined28), (0x30, .undefined30), (0x38, .undefined38), (0xCB, .undefinedCB),
   (0xD9, .undefinedD9), (0xDD, .undefinedDD), (0xED, .undefinedED), (0xFD, .undefinedFD)]

end Sys2Proof
end

