-- ==== Sys2Proof/Machine/Run.lean ====
section
/-! DEFINITION. The host's side of the block's interface: the launch, the driving loop, the outcome it reads, and the trace
event each executed instruction reports (40_engine_cycle.md, 70_reset_and_hazards.md). -/

namespace Sys2Proof.Machine

/-- A launch: the state as constructed, `IMAGE` copied to `ENTRY`, `PC <- ENTRY` (R400 to R403); refused when the image
does not fit below 0x10000 (R405). -/
def launch (entry : Word) (image : List Byte) : Result :=
  if entry.toNat + image.length ≤ Config.memorySize then
    .next { State.reset with
      mem := Memory.load entry.toNat image State.reset.mem,
      pc := entry,
      imageEnd := entry.toNat + image.length }
  else .refused .imageDoesNotFit

/-- The driving loop under fuel: steps while `status = Running` (R122, R124). -/
def drive : Nat → State → Result
  | 0, s => .next s
  | k + 1, s =>
    match s.status with
    | .running =>
      match step s with
      | .next t => drive k t
      | .fault r => .fault r
      | .refused r => .refused r
    | .boundary => .next s
    | .halted => .next s
    | .fault _ _ => .next s

/-- The three outcomes of a run (R119). -/
inductive RunOutcome where
  | boundary
  | unimplementedOpcode (addr : Word) (opcode : Byte)
  | halted
  deriving DecidableEq, Repr

/-- The outcome the host reads from `status`; none while the run goes on (R119). -/
def runOutcome (s : State) : Option RunOutcome :=
  match s.status with
  | .running => none
  | .boundary => some .boundary
  | .halted => some .halted
  | .fault addr op => some (.unimplementedOpcode addr op)

/-- The snapshot of a trace event: the registers, the flags and INTE; no memory (R118, D14). -/
structure Snapshot where
  a : Byte
  b : Byte
  c : Byte
  d : Byte
  e : Byte
  h : Byte
  l : Byte
  sp : Word
  pc : Word
  flags : Flags
  inte : Bool
  deriving DecidableEq, Repr

/-- A trace event `Trace(pc0, op, snapshot)` (R118). -/
structure TraceEvent where
  pc0 : Word
  op : Byte
  snapshot : Snapshot
  deriving DecidableEq, Repr

/-- The snapshot of a state (R118). -/
def snapshotOf (s : State) : Snapshot :=
  { a := s.a, b := s.b, c := s.c, d := s.d, e := s.e, h := s.h, l := s.l, sp := s.sp, pc := s.pc, flags := s.flags,
    inte := s.inte }

/-- The trace event that the step from `s` reports: one for each instruction that executes, HLT among them; none for the
boundary check, for a step that raises `UnimplementedOpcode`, or when no step is taken (R118; log 7). -/
def traceEvent (s : State) : Option TraceEvent :=
  if s.status = .running ∧ atImageEnd s = false ∧ Config.implemented (fetchOpcode s) = true then
    match step s with
    | .next t => some { pc0 := s.pc, op := fetchOpcode s, snapshot := snapshotOf t }
    | .fault _ => none
    | .refused _ => none
  else none

end Sys2Proof.Machine
end

