-- ==== Sys2Proof/WellFormed.lean ====
section
/-! DEFINITION. Which instructions are well formed: those the block executes. -/

namespace Sys2Proof

/-- An instruction is well formed when its opcode is in `IMPLEMENTED` (R7, R114). The operand fields need no check: each is
exactly the immediate byte or the two immediate bytes, and every value of them is legal (R86, R87). The rows UNDEFINED are
the instructions that are not well formed (R120). -/
abbrev WellFormed (i : Instr) : Prop := Config.implemented (opcodeOf i) = true

end Sys2Proof
end

