-- ==== Sys2Proof/Safety.lean ====
section
/-! DEFINITION. The terms in which statements speak of the machine: what each instruction may write, what two states have
in common, and the invariant of a run. The tables are read from the rules, not from the meanings. -/

namespace Sys2Proof.Machine

/-! ## What an instruction writes -/

/-- The registers an instruction writes (R20 and the instruction rules). -/
def writtenRegs : Instr → List Reg
  | .nop | .staxB | .undefined08 | .undefined10 | .staxD | .undefined18 | .undefined20 | .shld _ | .undefined28 | .undefined30
  | .lxiSp _ | .sta _ | .inxSp | .inrM | .dcrM | .mviM _ | .stc | .undefined38 | .dcxSp | .cmc
  | .movMB | .movMC | .movMD | .movME | .movMH | .movML | .hlt | .movMA | .cmpB | .cmpC
  | .cmpD | .cmpE | .cmpH | .cmpL | .cmpM | .cmpA | .rnz | .jnz _ | .jmp _ | .cnz _
  | .pushB | .rst0 | .rz | .ret | .jz _ | .undefinedCB | .cz _ | .call _ | .rst1 | .rnc
  | .jnc _ | .outPort _ | .cnc _ | .pushD | .rst2 | .rc | .undefinedD9 | .jc _ | .cc _ | .undefinedDD
  | .rst3 | .rpo | .jpo _ | .cpo _ | .pushH | .rst4 | .rpe | .pchl | .jpe _ | .cpe _
  | .undefinedED | .rst5 | .rp | .jp _ | .di | .cp _ | .pushPsw | .rst6 | .rm | .sphl
  | .jm _ | .ei | .cm _ | .undefinedFD | .cpi _ | .rst7 => []
  | .lxiB _ | .inxB | .dcxB | .popB => [.b, .c]
  | .inrB | .dcrB | .mviB _ | .movBB | .movBC | .movBD | .movBE | .movBH | .movBL | .movBM
  | .movBA => [.b]
  | .rlc | .ldaxB | .rrc | .ral | .ldaxD | .rar | .daa | .cma | .lda _ | .inrA
  | .dcrA | .mviA _ | .movAB | .movAC | .movAD | .movAE | .movAH | .movAL | .movAM | .movAA
  | .addB | .addC | .addD | .addE | .addH | .addL | .addM | .addA | .adcB | .adcC
  | .adcD | .adcE | .adcH | .adcL | .adcM | .adcA | .subB | .subC | .subD | .subE
  | .subH | .subL | .subM | .subA | .sbbB | .sbbC | .sbbD | .sbbE | .sbbH | .sbbL
  | .sbbM | .sbbA | .anaB | .anaC | .anaD | .anaE | .anaH | .anaL | .anaM | .anaA
  | .xraB | .xraC | .xraD | .xraE | .xraH | .xraL | .xraM | .xraA | .oraB | .oraC
  | .oraD | .oraE | .oraH | .oraL | .oraM | .oraA | .adi _ | .aci _ | .sui _ | .inPort _
  | .sbi _ | .ani _ | .xri _ | .popPsw | .ori _ => [.a]
  | .dadB | .dadD | .lxiH _ | .inxH | .dadH | .lhld _ | .dcxH | .dadSp | .popH | .xthl => [.h, .l]
  | .inrC | .dcrC | .mviC _ | .movCB | .movCC | .movCD | .movCE | .movCH | .movCL | .movCM
  | .movCA => [.c]
  | .lxiD _ | .inxD | .dcxD | .popD => [.d, .e]
  | .inrD | .dcrD | .mviD _ | .movDB | .movDC | .movDD | .movDE | .movDH | .movDL | .movDM
  | .movDA => [.d]
  | .inrE | .dcrE | .mviE _ | .movEB | .movEC | .movED | .movEE | .movEH | .movEL | .movEM
  | .movEA => [.e]
  | .inrH | .dcrH | .mviH _ | .movHB | .movHC | .movHD | .movHE | .movHH | .movHL | .movHM
  | .movHA => [.h]
  | .inrL | .dcrL | .mviL _ | .movLB | .movLC | .movLD | .movLE | .movLH | .movLL | .movLM
  | .movLA => [.l]
  | .xchg => [.d, .e, .h, .l]

/-- The flags an instruction writes (R33). -/
def writtenFlags : Instr → List FlagName
  | .nop | .lxiB _ | .staxB | .inxB | .mviB _ | .undefined08 | .ldaxB | .dcxB | .mviC _ | .undefined10
  | .lxiD _ | .staxD | .inxD | .mviD _ | .undefined18 | .ldaxD | .dcxD | .mviE _ | .undefined20 | .lxiH _
  | .shld _ | .inxH | .mviH _ | .undefined28 | .lhld _ | .dcxH | .mviL _ | .cma | .undefined30 | .lxiSp _
  | .sta _ | .inxSp | .mviM _ | .undefined38 | .lda _ | .dcxSp | .mviA _ | .movBB | .movBC | .movBD
  | .movBE | .movBH | .movBL | .movBM | .movBA | .movCB | .movCC | .movCD | .movCE | .movCH
  | .movCL | .movCM | .movCA | .movDB | .movDC | .movDD | .movDE | .movDH | .movDL | .movDM
  | .movDA | .movEB | .movEC | .movED | .movEE | .movEH | .movEL | .movEM | .movEA | .movHB
  | .movHC | .movHD | .movHE | .movHH | .movHL | .movHM | .movHA | .movLB | .movLC | .movLD
  | .movLE | .movLH | .movLL | .movLM | .movLA | .movMB | .movMC | .movMD | .movME | .movMH
  | .movML | .hlt | .movMA | .movAB | .movAC | .movAD | .movAE | .movAH | .movAL | .movAM
  | .movAA | .rnz | .popB | .jnz _ | .jmp _ | .cnz _ | .pushB | .rst0 | .rz | .ret
  | .jz _ | .undefinedCB | .cz _ | .call _ | .rst1 | .rnc | .popD | .jnc _ | .outPort _ | .cnc _
  | .pushD | .rst2 | .rc | .undefinedD9 | .jc _ | .inPort _ | .cc _ | .undefinedDD | .rst3 | .rpo
  | .popH | .jpo _ | .xthl | .cpo _ | .pushH | .rst4 | .rpe | .pchl | .jpe _ | .xchg
  | .cpe _ | .undefinedED | .rst5 | .rp | .jp _ | .di | .cp _ | .pushPsw | .rst6 | .rm
  | .sphl | .jm _ | .ei | .cm _ | .undefinedFD | .rst7 => []
  | .inrB | .dcrB | .inrC | .dcrC | .inrD | .dcrD | .inrE | .dcrE | .inrH | .dcrH
  | .inrL | .dcrL | .inrM | .dcrM | .inrA | .dcrA => [.z, .s, .p, .ac]
  | .rlc | .dadB | .rrc | .ral | .dadD | .rar | .dadH | .stc | .dadSp | .cmc => [.cy]
  | .daa | .addB | .addC | .addD | .addE | .addH | .addL | .addM | .addA | .adcB
  | .adcC | .adcD | .adcE | .adcH | .adcL | .adcM | .adcA | .subB | .subC | .subD
  | .subE | .subH | .subL | .subM | .subA | .sbbB | .sbbC | .sbbD | .sbbE | .sbbH
  | .sbbL | .sbbM | .sbbA | .anaB | .anaC | .anaD | .anaE | .anaH | .anaL | .anaM
  | .anaA | .xraB | .xraC | .xraD | .xraE | .xraH | .xraL | .xraM | .xraA | .oraB
  | .oraC | .oraD | .oraE | .oraH | .oraL | .oraM | .oraA | .cmpB | .cmpC | .cmpD
  | .cmpE | .cmpH | .cmpL | .cmpM | .cmpA | .adi _ | .aci _ | .sui _ | .sbi _ | .ani _
  | .xri _ | .popPsw | .ori _ | .cpi _ => [.z, .s, .p, .cy, .ac]

/-- Whether an instruction may write `SP` (R24). -/
def mayWriteSp : Instr → Bool
  | .lxiSp _ | .inxSp | .dcxSp | .rnz | .popB | .cnz _ | .pushB | .rst0 | .rz | .ret
  | .cz _ | .call _ | .rst1 | .rnc | .popD | .cnc _ | .pushD | .rst2 | .rc | .cc _
  | .rst3 | .rpo | .popH | .cpo _ | .pushH | .rst4 | .rpe | .cpe _ | .rst5 | .rp
  | .popPsw | .cp _ | .pushPsw | .rst6 | .rm | .sphl | .cm _ | .rst7 => true
  | .nop | .lxiB _ | .staxB | .inxB | .inrB | .dcrB | .mviB _ | .rlc | .undefined08 | .dadB
  | .ldaxB | .dcxB | .inrC | .dcrC | .mviC _ | .rrc | .undefined10 | .lxiD _ | .staxD | .inxD
  | .inrD | .dcrD | .mviD _ | .ral | .undefined18 | .dadD | .ldaxD | .dcxD | .inrE | .dcrE
  | .mviE _ | .rar | .undefined20 | .lxiH _ | .shld _ | .inxH | .inrH | .dcrH | .mviH _ | .daa
  | .undefined28 | .dadH | .lhld _ | .dcxH | .inrL | .dcrL | .mviL _ | .cma | .undefined30 | .sta _
  | .inrM | .dcrM | .mviM _ | .stc | .undefined38 | .dadSp | .lda _ | .inrA | .dcrA | .mviA _
  | .cmc | .movBB | .movBC | .movBD | .movBE | .movBH | .movBL | .movBM | .movBA | .movCB
  | .movCC | .movCD | .movCE | .movCH | .movCL | .movCM | .movCA | .movDB | .movDC | .movDD
  | .movDE | .movDH | .movDL | .movDM | .movDA | .movEB | .movEC | .movED | .movEE | .movEH
  | .movEL | .movEM | .movEA | .movHB | .movHC | .movHD | .movHE | .movHH | .movHL | .movHM
  | .movHA | .movLB | .movLC | .movLD | .movLE | .movLH | .movLL | .movLM | .movLA | .movMB
  | .movMC | .movMD | .movME | .movMH | .movML | .hlt | .movMA | .movAB | .movAC | .movAD
  | .movAE | .movAH | .movAL | .movAM | .movAA | .addB | .addC | .addD | .addE | .addH
  | .addL | .addM | .addA | .adcB | .adcC | .adcD | .adcE | .adcH | .adcL | .adcM
  | .adcA | .subB | .subC | .subD | .subE | .subH | .subL | .subM | .subA | .sbbB
  | .sbbC | .sbbD | .sbbE | .sbbH | .sbbL | .sbbM | .sbbA | .anaB | .anaC | .anaD
  | .anaE | .anaH | .anaL | .anaM | .anaA | .xraB | .xraC | .xraD | .xraE | .xraH
  | .xraL | .xraM | .xraA | .oraB | .oraC | .oraD | .oraE | .oraH | .oraL | .oraM
  | .oraA | .cmpB | .cmpC | .cmpD | .cmpE | .cmpH | .cmpL | .cmpM | .cmpA | .jnz _
  | .jmp _ | .adi _ | .jz _ | .undefinedCB | .aci _ | .jnc _ | .outPort _ | .sui _ | .undefinedD9 | .jc _
  | .inPort _ | .undefinedDD | .sbi _ | .jpo _ | .xthl | .ani _ | .pchl | .jpe _ | .xchg | .undefinedED
  | .xri _ | .jp _ | .di | .ori _ | .jm _ | .ei | .undefinedFD | .cpi _ => false

/-- Whether an instruction may leave `PC` elsewhere than at the next instruction: the transfers of control, and the rows
UNDEFINED, which leave it where it was (R114, R115). -/
def mayLeaveSequence : Instr → Bool
  | .undefined08 | .undefined10 | .undefined18 | .undefined20 | .undefined28 | .undefined30 | .undefined38 | .rnz | .jnz _ | .jmp _
  | .cnz _ | .rst0 | .rz | .ret | .jz _ | .undefinedCB | .cz _ | .call _ | .rst1 | .rnc
  | .jnc _ | .cnc _ | .rst2 | .rc | .undefinedD9 | .jc _ | .cc _ | .undefinedDD | .rst3 | .rpo
  | .jpo _ | .cpo _ | .rst4 | .rpe | .pchl | .jpe _ | .cpe _ | .undefinedED | .rst5 | .rp
  | .jp _ | .cp _ | .rst6 | .rm | .jm _ | .cm _ | .undefinedFD | .rst7 => true
  | .nop | .lxiB _ | .staxB | .inxB | .inrB | .dcrB | .mviB _ | .rlc | .dadB | .ldaxB
  | .dcxB | .inrC | .dcrC | .mviC _ | .rrc | .lxiD _ | .staxD | .inxD | .inrD | .dcrD
  | .mviD _ | .ral | .dadD | .ldaxD | .dcxD | .inrE | .dcrE | .mviE _ | .rar | .lxiH _
  | .shld _ | .inxH | .inrH | .dcrH | .mviH _ | .daa | .dadH | .lhld _ | .dcxH | .inrL
  | .dcrL | .mviL _ | .cma | .lxiSp _ | .sta _ | .inxSp | .inrM | .dcrM | .mviM _ | .stc
  | .dadSp | .lda _ | .dcxSp | .inrA | .dcrA | .mviA _ | .cmc | .movBB | .movBC | .movBD
  | .movBE | .movBH | .movBL | .movBM | .movBA | .movCB | .movCC | .movCD | .movCE | .movCH
  | .movCL | .movCM | .movCA | .movDB | .movDC | .movDD | .movDE | .movDH | .movDL | .movDM
  | .movDA | .movEB | .movEC | .movED | .movEE | .movEH | .movEL | .movEM | .movEA | .movHB
  | .movHC | .movHD | .movHE | .movHH | .movHL | .movHM | .movHA | .movLB | .movLC | .movLD
  | .movLE | .movLH | .movLL | .movLM | .movLA | .movMB | .movMC | .movMD | .movME | .movMH
  | .movML | .hlt | .movMA | .movAB | .movAC | .movAD | .movAE | .movAH | .movAL | .movAM
  | .movAA | .addB | .addC | .addD | .addE | .addH | .addL | .addM | .addA | .adcB
  | .adcC | .adcD | .adcE | .adcH | .adcL | .adcM | .adcA | .subB | .subC | .subD
  | .subE | .subH | .subL | .subM | .subA | .sbbB | .sbbC | .sbbD | .sbbE | .sbbH
  | .sbbL | .sbbM | .sbbA | .anaB | .anaC | .anaD | .anaE | .anaH | .anaL | .anaM
  | .anaA | .xraB | .xraC | .xraD | .xraE | .xraH | .xraL | .xraM | .xraA | .oraB
  | .oraC | .oraD | .oraE | .oraH | .oraL | .oraM | .oraA | .cmpB | .cmpC | .cmpD
  | .cmpE | .cmpH | .cmpL | .cmpM | .cmpA | .popB | .pushB | .adi _ | .aci _ | .popD
  | .outPort _ | .pushD | .sui _ | .inPort _ | .sbi _ | .popH | .xthl | .pushH | .ani _ | .xchg
  | .xri _ | .popPsw | .di | .pushPsw | .ori _ | .sphl | .ei | .cpi _ => false

/-- The addresses an instruction stores to from state `s` (R54, R57), in the order of the stores. -/
def storedBytes (i : Instr) (s : State) : List Word :=
  match i with
  | .nop | .lxiB _ | .inxB | .inrB | .dcrB | .mviB _ | .rlc | .undefined08 | .dadB | .ldaxB
  | .dcxB | .inrC | .dcrC | .mviC _ | .rrc | .undefined10 | .lxiD _ | .inxD | .inrD | .dcrD
  | .mviD _ | .ral | .undefined18 | .dadD | .ldaxD | .dcxD | .inrE | .dcrE | .mviE _ | .rar
  | .undefined20 | .lxiH _ | .inxH | .inrH | .dcrH | .mviH _ | .daa | .undefined28 | .dadH | .lhld _
  | .dcxH | .inrL | .dcrL | .mviL _ | .cma | .undefined30 | .lxiSp _ | .inxSp | .stc | .undefined38
  | .dadSp | .lda _ | .dcxSp | .inrA | .dcrA | .mviA _ | .cmc | .movBB | .movBC | .movBD
  | .movBE | .movBH | .movBL | .movBM | .movBA | .movCB | .movCC | .movCD | .movCE | .movCH
  | .movCL | .movCM | .movCA | .movDB | .movDC | .movDD | .movDE | .movDH | .movDL | .movDM
  | .movDA | .movEB | .movEC | .movED | .movEE | .movEH | .movEL | .movEM | .movEA | .movHB
  | .movHC | .movHD | .movHE | .movHH | .movHL | .movHM | .movHA | .movLB | .movLC | .movLD
  | .movLE | .movLH | .movLL | .movLM | .movLA | .hlt | .movAB | .movAC | .movAD | .movAE
  | .movAH | .movAL | .movAM | .movAA | .addB | .addC | .addD | .addE | .addH | .addL
  | .addM | .addA | .adcB | .adcC | .adcD | .adcE | .adcH | .adcL | .adcM | .adcA
  | .subB | .subC | .subD | .subE | .subH | .subL | .subM | .subA | .sbbB | .sbbC
  | .sbbD | .sbbE | .sbbH | .sbbL | .sbbM | .sbbA | .anaB | .anaC | .anaD | .anaE
  | .anaH | .anaL | .anaM | .anaA | .xraB | .xraC | .xraD | .xraE | .xraH | .xraL
  | .xraM | .xraA | .oraB | .oraC | .oraD | .oraE | .oraH | .oraL | .oraM | .oraA
  | .cmpB | .cmpC | .cmpD | .cmpE | .cmpH | .cmpL | .cmpM | .cmpA | .rnz | .popB
  | .jnz _ | .jmp _ | .adi _ | .rz | .ret | .jz _ | .undefinedCB | .aci _ | .rnc | .popD
  | .jnc _ | .outPort _ | .sui _ | .rc | .undefinedD9 | .jc _ | .inPort _ | .undefinedDD | .sbi _ | .rpo
  | .popH | .jpo _ | .ani _ | .rpe | .pchl | .jpe _ | .xchg | .undefinedED | .xri _ | .rp
  | .popPsw | .jp _ | .di | .ori _ | .rm | .sphl | .jm _ | .ei | .undefinedFD | .cpi _ => []
  | .staxB => [readPair .bc s]
  | .staxD => [readPair .de s]
  | .shld a16 => [a16, a16 + 1]
  | .sta a16 => [a16]
  | .inrM | .dcrM | .mviM _ | .movMB | .movMC | .movMD | .movME | .movMH | .movML | .movMA => [readPair .hl s]
  | .cnz _ => if condHolds .nz s.flags then [s.sp - 1, s.sp - 2] else []
  | .pushB | .rst0 | .call _ | .rst1 | .pushD | .rst2 | .rst3 | .pushH | .rst4 | .rst5
  | .pushPsw | .rst6 | .rst7 => [s.sp - 1, s.sp - 2]
  | .cz _ => if condHolds .z s.flags then [s.sp - 1, s.sp - 2] else []
  | .cnc _ => if condHolds .nc s.flags then [s.sp - 1, s.sp - 2] else []
  | .cc _ => if condHolds .c s.flags then [s.sp - 1, s.sp - 2] else []
  | .xthl => [s.sp, s.sp + 1]
  | .cpo _ => if condHolds .po s.flags then [s.sp - 1, s.sp - 2] else []
  | .cpe _ => if condHolds .pe s.flags then [s.sp - 1, s.sp - 2] else []
  | .cp _ => if condHolds .p s.flags then [s.sp - 1, s.sp - 2] else []
  | .cm _ => if condHolds .m s.flags then [s.sp - 1, s.sp - 2] else []

/-- The value of a flag by its name. -/
def flagValue (n : FlagName) (f : Flags) : Bool :=
  match n with
  | .z => f.z
  | .s => f.s
  | .p => f.p
  | .cy => f.cy
  | .ac => f.ac

/-! ## Relations between the states before and after -/

/-- Every byte of memory outside `stored` reads the same in both states. -/
def SameMemoryBut (stored : List Word) (s t : State) : Prop := ∀ a : Word, a ∉ stored → readMem a t = readMem a s

/-- `t` has `v` on top of the stack of `s`: the high byte at `SP - 1`, the low byte at `SP - 2`, `SP` two lower, and every
other byte of memory as in `s` (R290). -/
def Pushed (v : Word) (s t : State) : Prop :=
  readMem (s.sp - 1) t = highByte v ∧ readMem (s.sp - 2) t = lowByte v ∧ t.sp = s.sp - 2 ∧
    SameMemoryBut [s.sp - 1, s.sp - 2] s t

/-- The three bytes from the program counter on, as fetch sees them. -/
def bytesAtPc (s : State) : List Byte := [readMem s.pc s, readMem (s.pc + 1) s, readMem (s.pc + 2) s]

/-- A result with its next state, if it has one, changed by `f`. -/
def mapNext (f : State → State) : Result → Result
  | .next t => .next (f t)
  | .fault r => .fault r
  | .refused r => .refused r

/-! ## The invariant -/

/-- The invariant of a run: memory keeps its canonical form, the image lies inside memory, and an ended run shows why it
ended: at the boundary `PC` is at or above `IMAGE_END` (R111), after HLT the byte before `PC` is a HLT inside the image
(R353), and a fault names the opcode byte that stands at `PC`, one the block does not execute (R114, R371). -/
structure Inv (s : State) : Prop where
  memory : Memory.wf s.mem = true
  imageFits : s.imageEnd ≤ Config.memorySize
  boundary : s.status = .boundary → s.imageEnd ≤ s.pc.toNat
  halted : s.status = .halted → readMem (s.pc - 1) s = 0x76 ∧ (s.pc - 1).toNat < s.imageEnd
  fault : ∀ (addr : Word) (op : Byte), s.status = .fault addr op →
    addr = s.pc ∧ readMem s.pc s = op ∧ Config.implemented op = false ∧ s.pc.toNat < s.imageEnd

end Sys2Proof.Machine
end

