-- ==== Sys2Proof/Certificates/Slice0/Obligations.lean ====
section
/-! DEFINITION. The statements for the provers. Each docstring names the rule or section of spec/ it formalises. Where a
rule's clause is marked there as the spec's own decision (`[decision: ... Dn]`) or inference (`[derived: ...]`), or rests on
an entry of the model's log, the docstring says so. -/

open Sys2Proof Sys2Proof.Machine

/-! ## Encoding and decoding (30_encoding.md) -/

/-- Decoding the bytes of any instruction, whatever follows them, gives it back with every operand, and leaves what
follows (30_encoding.md sections 1 to 3). -/
def Obligations.DecodeOfEncode : Prop :=
  ∀ (i : Instr) (rest : List Byte), decode (encode i ++ rest) = .ok i rest

/-- Whatever decodes to an instruction is that instruction's encoding: no bit of it is ignored, and no two encodings share
a meaning (30_encoding.md sections 1 to 3). -/
def Obligations.EncodeOfDecode : Prop :=
  ∀ (bytes : List Byte) (i : Instr) (rest : List Byte), decode bytes = .ok i rest → encode i ++ rest = bytes

/-- The opcode byte alone fixes the length: with two bytes after it every opcode byte decodes, and the decoder takes one,
two or three bytes as the opcode says, whatever the other bytes are (R91; R80 and R89 give the lengths). -/
def Obligations.OpcodeByteFixesLength : Prop :=
  ∀ (op b1 b2 : Byte) (rest : List Byte),
    (instrLength op = 1 ∨ instrLength op = 2 ∨ instrLength op = 3) ∧
    ∃ i, decode (op :: b1 :: b2 :: rest) = .ok i ((b1 :: b2 :: rest).drop (instrLength op - 1)) ∧ opcodeOf i = op

/-- The opcode byte of every instruction but the rows UNDEFINED, whose bytes are those of UndefinedOpcodesAreTheTwelve. A
family's is made of the fields of R81, with the codes of R82 to R85, which come first; an instruction with no field has the
value of the map of R89. But for the five values that the source shows, the codes and values are marked there
`[from general knowledge, not in source]`. -/
def Obligations.OpcodeFields : Prop :=
  [Reg.b, .c, .d, .e, .h, .l, .a].map regCode = [0b000, 0b001, 0b010, 0b011, 0b100, 0b101, 0b111] ∧
  [RegPair.bc, .de, .hl].map pairCode = [0b00, 0b01, 0b10] ∧
  [Pair16.bc, .de, .hl, .sp].map pair16Code = [0b00, 0b01, 0b10, 0b11] ∧
  [Cond.nz, .z, .nc, .c, .po, .pe, .p, .m].map condCode = [0b000, 0b001, 0b010, 0b011, 0b100, 0b101, 0b110, 0b111] ∧
  [AluOp.add, .adc, .sub, .sbb, .ana, .xra, .ora, .cmp].map aluCode =
    [0b000, 0b001, 0b010, 0b011, 0b100, 0b101, 0b110, 0b111] ∧
  (∀ dst src, opcodeOf (Instr.ofMov dst src) = 0b01#2 ++ regCode dst ++ regCode src) ∧
  (∀ dst, opcodeOf (Instr.ofMovFromMem dst) = 0b01#2 ++ regCode dst ++ 0b110#3) ∧
  (∀ r, opcodeOf (Instr.ofMovToMem r) = 0b01#2 ++ 0b110#3 ++ regCode r) ∧
  (∀ dst v, opcodeOf (Instr.ofMvi dst v) = 0b00#2 ++ regCode dst ++ 0b110#3) ∧
  (∀ dst, opcodeOf (Instr.ofInr dst) = 0b00#2 ++ regCode dst ++ 0b100#3) ∧
  (∀ dst, opcodeOf (Instr.ofDcr dst) = 0b00#2 ++ regCode dst ++ 0b101#3) ∧
  (∀ op r, opcodeOf (Instr.ofAlu op (.reg r)) = 0b10#2 ++ aluCode op ++ regCode r) ∧
  (∀ op, opcodeOf (Instr.ofAlu op .mem) = 0b10#2 ++ aluCode op ++ 0b110#3) ∧
  (∀ op v, opcodeOf (Instr.ofAlu op (.imm v)) = 0b11#2 ++ aluCode op ++ 0b110#3) ∧
  (∀ p v, opcodeOf (Instr.ofLxi p v) = 0b00#2 ++ pair16Code p ++ 0b0001#4) ∧
  (∀ p, opcodeOf (Instr.ofInx p) = 0b00#2 ++ pair16Code p ++ 0b0011#4) ∧
  (∀ p, opcodeOf (Instr.ofDcx p) = 0b00#2 ++ pair16Code p ++ 0b1011#4) ∧
  (∀ p, opcodeOf (Instr.ofDad p) = 0b00#2 ++ pair16Code p ++ 0b1001#4) ∧
  (∀ p, opcodeOf (Instr.ofPush p) = 0b11#2 ++ pairCode p ++ 0b0101#4) ∧
  (∀ p, opcodeOf (Instr.ofPop p) = 0b11#2 ++ pairCode p ++ 0b0001#4) ∧
  (∀ cond a, opcodeOf (Instr.ofJcc cond a) = 0b11#2 ++ condCode cond ++ 0b010#3) ∧
  (∀ cond a, opcodeOf (Instr.ofCcc cond a) = 0b11#2 ++ condCode cond ++ 0b100#3) ∧
  (∀ cond, opcodeOf (Instr.ofRcc cond) = 0b11#2 ++ condCode cond ++ 0b000#3) ∧
  (∀ n, opcodeOf (Instr.ofRst n) = 0b11#2 ++ n ++ 0b111#3) ∧
  (∀ v, opcodeOf (.mviM v) = 0b00#2 ++ 0b110#3 ++ 0b110#3) ∧
  opcodeOf .inrM = 0b00#2 ++ 0b110#3 ++ 0b100#3 ∧ opcodeOf .dcrM = 0b00#2 ++ 0b110#3 ++ 0b101#3 ∧
  opcodeOf .staxB = 0b00#2 ++ pairCode .bc ++ 0b0010#4 ∧ opcodeOf .staxD = 0b00#2 ++ pairCode .de ++ 0b0010#4 ∧
  opcodeOf .ldaxB = 0b00#2 ++ pairCode .bc ++ 0b1010#4 ∧ opcodeOf .ldaxD = 0b00#2 ++ pairCode .de ++ 0b1010#4 ∧
  opcodeOf .pushPsw = 0b11#2 ++ 0b11#2 ++ 0b0101#4 ∧ opcodeOf .popPsw = 0b11#2 ++ 0b11#2 ++ 0b0001#4 ∧
  (∀ a, opcodeOf (.shld a) = 0x22) ∧ (∀ a, opcodeOf (.lhld a) = 0x2A) ∧
  (∀ a, opcodeOf (.sta a) = 0x32) ∧ (∀ a, opcodeOf (.lda a) = 0x3A) ∧
  opcodeOf .rlc = 0x07 ∧ opcodeOf .rrc = 0x0F ∧ opcodeOf .ral = 0x17 ∧ opcodeOf .rar = 0x1F ∧
  opcodeOf .daa = 0x27 ∧ opcodeOf .cma = 0x2F ∧ opcodeOf .stc = 0x37 ∧ opcodeOf .cmc = 0x3F ∧
  opcodeOf .nop = 0x00 ∧ opcodeOf .hlt = 0x76 ∧ opcodeOf .di = 0xF3 ∧ opcodeOf .ei = 0xFB ∧
  (∀ port, opcodeOf (.outPort port) = 0xD3) ∧ (∀ port, opcodeOf (.inPort port) = 0xDB) ∧
  (∀ a, opcodeOf (.jmp a) = 0xC3) ∧ (∀ a, opcodeOf (.call a) = 0xCD) ∧ opcodeOf .ret = 0xC9 ∧
  opcodeOf .pchl = 0xE9 ∧ opcodeOf .sphl = 0xF9 ∧ opcodeOf .xthl = 0xE3 ∧ opcodeOf .xchg = 0xEB

/-- A few words written out from the spec: the five opcodes of the source's section 8 and one word of each other family. -/
def Obligations.WrittenWordsDecode : Prop :=
  decode [0b00111110, 0x05] = .ok (.mviA 0x05) [] ∧
  decode [0b00000110, 0x03] = .ok (.mviB 0x03) [] ∧
  decode [0b10000000] = .ok .addB [] ∧
  decode [0b00111100] = .ok .inrA [] ∧
  decode [0b00001000] = .ok .undefined08 [] ∧
  decode [0b01001000] = .ok .movCB [] ∧
  decode [0b00110001, 0x00, 0x24] = .ok (.lxiSp 0x2400) [] ∧
  decode [0b11100110, 0x03] = .ok (.ani 0x03) [] ∧
  decode [0b11000010, 0x00, 0x02] = .ok (.jnz 0x0200) [] ∧
  decode [0b11001101, 0x00, 0x02] = .ok (.call 0x0200) [] ∧
  decode [0b11110101] = .ok .pushPsw [] ∧
  decode [0b01110110] = .ok .hlt [] ∧
  decode [0b11011011, 0x01] = .ok (.inPort 0x01) []

/-- The twelve undefined opcode values, and no others, are the instructions that are not well formed; each is one byte long
and decodes to its own row UNDEFINED (30_encoding.md section 4; the list is marked `[from general knowledge]`). That well
formed means an opcode in IMPLEMENTED is the model's choice (log 10), and so is fixing IMPLEMENTED at the 244 documented
opcodes (log 5), the value that 00_scope.md section 3 gives it by decision D2. -/
def Obligations.UndefinedOpcodesAreTheTwelve : Prop :=
  (∀ i, ¬ WellFormed i ↔ (opcodeOf i, i) ∈ Instr.undefinedRows) ∧
  (∀ op i, (op, i) ∈ Instr.undefinedRows → encode i = [op] ∧ decode [op] = .ok i []) ∧
  Instr.undefinedRows.map Prod.fst = [0x08, 0x10, 0x18, 0x20, 0x28, 0x30, 0x38, 0xCB, 0xD9, 0xDD, 0xED, 0xFD]

/-! ## Registers, pairs and memory (10_state.md, 20_memory.md) -/

/-- A register's name reads its own field of the state; a register written reads back, every other register reads as
before, and nothing else of the state changes (10_state.md section 2). -/
def Obligations.RegisterWriteReads : Prop :=
  (∀ s : State, readReg .a s = s.a ∧ readReg .b s = s.b ∧ readReg .c s = s.c ∧ readReg .d s = s.d ∧ readReg .e s = s.e ∧
    readReg .h s = s.h ∧ readReg .l s = s.l) ∧
  ∀ (r q : Reg) (v : Byte) (s : State),
    readReg q (writeReg r v s) = (if q = r then v else readReg q s) ∧
    ∃ a b c d e h l, writeReg r v s = { s with a := a, b := b, c := c, d := d, e := e, h := h, l := l }

/-- Combining two bytes counts the high one 256 times and splitting gives them back (R15). The pair views are computed from
their two registers (R22). Writing one writes `v[15:8]` to the high register and
`v[7:0]` to the low one and no other, and reading it back gives v (R23, whose last sentence is marked `[derived]`).
The high register of a pair is the one it is named by, and a field `rp` that can name SP names SP or that pair (R83). -/
def Obligations.PairViewsAndWrites : Prop :=
  (∀ hi lo : Byte, (combine hi lo).toNat = 256 * hi.toNat + lo.toNat ∧
    highByte (combine hi lo) = hi ∧ lowByte (combine hi lo) = lo) ∧
  (∀ s : State, readPair .bc s = combine s.b s.c ∧ readPair .de s = combine s.d s.e ∧ readPair .hl s = combine s.h s.l) ∧
  (∀ (v : Word) (s : State),
    writePair .bc v s = { s with b := highByte v, c := lowByte v } ∧
    writePair .de v s = { s with d := highByte v, e := lowByte v } ∧
    writePair .hl v s = { s with h := highByte v, l := lowByte v }) ∧
  (∀ (p : RegPair) (v : Word) (s : State), readPair p (writePair p v s) = v) ∧
  [RegPair.bc, .de, .hl].map highReg = [.b, .d, .h] ∧ [RegPair.bc, .de, .hl].map lowReg = [.c, .e, .l] ∧
  (∀ s : State, readPair16 .bc s = readPair .bc s ∧ readPair16 .de s = readPair .de s ∧ readPair16 .hl s = readPair .hl s ∧
    readPair16 .sp s = s.sp) ∧
  (∀ (v : Word) (s : State), writePair16 .bc v s = writePair .bc v s ∧ writePair16 .de v s = writePair .de v s ∧
    writePair16 .hl v s = writePair .hl v s ∧ writePair16 .sp v s = { s with sp := v })

/-- A read returns the value of the last write to that address, or the reset value 0x00 if there was none; a write leaves
every other address alone (R52). It holds of every list of cells, canonical or not. -/
def Obligations.MemoryReadAfterWrite : Prop :=
  (∀ (m : Memory) (a b : Word) (v : Byte), Memory.read (Memory.write m a v) b = if b = a then v else Memory.read m b) ∧
  (∀ a : Word, Memory.read State.reset.mem a = 0x00) ∧
  (∀ (a : Word) (s : State), readMem a s = Memory.read s.mem a)

/-- Memory has one canonical form: two memories in it that read the same at every address are the same data (the model's
own representation, log 9, of the flat byte array of 20_memory.md section 1). -/
def Obligations.MemoryFormIsUnique : Prop :=
  ∀ m n : Memory, Memory.wf m = true → Memory.wf n = true → (∀ a : Word, Memory.read m a = Memory.read n a) → m = n

/-- `setZSP(res)` (R170), with `parity` counting the 1 bits (R16): Z iff the result is 0, S iff bit 7 is 1, P iff the number
of 1 bits is even; CY and AC are kept. -/
def Obligations.ZeroSignParityOfResult : Prop :=
  ∀ (res : Byte) (f : Flags),
    parity res = decide (Even ((List.range 8).filter res.getLsbD).length) ∧
    (setZsp res f).z = decide (res.toNat = 0) ∧ (setZsp res f).s = decide (128 ≤ res.toNat) ∧
    (setZsp res f).p = parity res ∧
    (setZsp res f).cy = f.cy ∧ (setZsp res f).ac = f.ac

/-! ## Reset and launch (70_reset_and_hazards.md) -/

/-- The state after reset, every field of it (70_reset_and_hazards.md section 1). That status is Running is decision D7; the
entry 0 and the empty image, with the field for its bound, are the model's choice (log 1 and log 2), as is the draw counter's
zero (log 3). -/
def Obligations.ResetValues : Prop :=
  State.reset.a = 0 ∧ State.reset.b = 0 ∧ State.reset.c = 0 ∧ State.reset.d = 0 ∧ State.reset.e = 0 ∧ State.reset.h = 0 ∧
  State.reset.l = 0 ∧ State.reset.sp = 0 ∧ State.reset.pc = 0 ∧ State.reset.inte = false ∧ State.reset.status = .running ∧
  (∀ n, flagValue n State.reset.flags = false) ∧ (∀ a, readMem a State.reset = 0) ∧
  State.reset.imageEnd = 0 ∧ State.reset.inDraws = 0

/-- At reset every byte of memory is 0x00; at launch byte i of the image is at `ENTRY + i`, and every byte outside the image
is still 0x00 (20_memory.md section 1, the first sentences of R51). -/
def Obligations.LaunchLoadsImage : Prop :=
  (∀ a : Word, readMem a State.reset = 0x00) ∧
  ∀ (entry : Word) (image : List Byte) (t : State), launch entry image = .next t →
    (∀ (i : Nat) (h : i < image.length), readMem (entry + BitVec.ofNat 16 i) t = image[i]) ∧
    (∀ a : Word, (a.toNat < entry.toNat ∨ entry.toNat + image.length ≤ a.toNat) → readMem a t = 0x00)

/-- A launch that fits sets `PC` to `ENTRY`, `IMAGE_END` to `ENTRY + LEN` and leaves every other field as constructed; one
that does not fit is refused (70_reset_and_hazards.md sections 1 and 2; decisions D13 and D16). -/
def Obligations.LaunchStartsAtEntryOrIsRefused : Prop :=
  ∀ (entry : Word) (image : List Byte),
    (entry.toNat + image.length ≤ 0x10000 →
      ∃ m, launch entry image =
        .next { State.reset with mem := m, pc := entry, imageEnd := entry.toNat + image.length }) ∧
    (0x10000 < entry.toNat + image.length → launch entry image = .refused .imageDoesNotFit)

/-! ## The step (40_engine_cycle.md) -/

/-- A running machine inside its image, whose bytes at `PC` decode to a well-formed instruction, steps by executing that
instruction, and adds nothing around it (40_engine_cycle.md sections 2 to 4). -/
def Obligations.StepRunsDecodedInstruction : Prop :=
  ∀ (s : State) (i : Instr) (rest : List Byte),
    s.status = .running → s.pc.toNat < s.imageEnd → decode (bytesAtPc s) = .ok i rest → WellFormed i →
    step s = exec i s

/-- The boundary check comes before the fetch: a running machine with `PC >= IMAGE_END` only sets its status to Boundary,
and one with `PC < IMAGE_END` never does (40_engine_cycle.md section 1; the bound is decision D9). That the check which ends
a run is a step of the model with a next state, and a fetch that faults another, is inferred (log 6): the spec's engine takes
no step there. That the bound is a field of the state is the model's choice (log 2). -/
def Obligations.BoundaryCheckEndsTheRun : Prop :=
  ∀ s : State, s.status = .running →
    (s.imageEnd ≤ s.pc.toNat → step s = .next { s with status := .boundary }) ∧
    (s.pc.toNat < s.imageEnd → ∃ t, step s = .next t ∧ t.status ≠ .boundary)

/-- An opcode outside `IMPLEMENTED`, so each of the twelve undefined values, sets the status to Fault(pc0, op) and writes
nothing else, and the run is over; so does each row UNDEFINED where it is executed (40_engine_cycle.md section 2; that all
twelve fault is decision D1). That the exception is a next state, and that a row UNDEFINED, which the spec never executes,
has a meaning in exec that takes it, is inferred (log 6). That the next step then answers the fault is the model's choice
(log 4). -/
def Obligations.UnimplementedOpcodeEndsTheRun : Prop :=
  (∀ (op : Byte) (i : Instr) (s : State), (op, i) ∈ Instr.undefinedRows →
    exec i s = .next { s with status := .fault s.pc op }) ∧
  ∀ s : State, s.status = .running → s.pc.toNat < s.imageEnd →
    readMem s.pc s ∈ [0x08, 0x10, 0x18, 0x20, 0x28, 0x30, 0x38, 0xCB, 0xD9, 0xDD, 0xED, 0xFD] →
    step s = .next { s with status := .fault s.pc (readMem s.pc s) } ∧
    step { s with status := .fault s.pc (readMem s.pc s) } =
      .fault (.unimplementedOpcode s.pc (readMem s.pc s))

/-- An ended run takes no step (10_state.md section 5 and 40_engine_cycle.md section 4); by which stop `step` says so is the
model's choice (log 4). -/
def Obligations.EndedRunTakesNoStep : Prop :=
  ∀ s : State,
    (s.status = .boundary → step s = .refused .stepAfterBoundary) ∧
    (s.status = .halted → step s = .refused .stepAfterHalt) ∧
    (∀ addr op, s.status = .fault addr op → step s = .fault (.unimplementedOpcode addr op)) ∧
    (∀ t, step s = .next t → s.status = .running)

/-- Nothing but an unimplemented opcode is an exception: every instruction, in every state, gives a next state, a
well-formed one with the status kept or, for HLT, Halted; and a running machine always steps (60_exceptions.md section 1,
R372). That HLT sets Halted is decision D7. That a row UNDEFINED and the boundary check answer next states is inferred
(log 6). -/
def Obligations.NothingElseIsAnException : Prop :=
  (∀ (i : Instr) (s : State), ∃ t, exec i s = .next t ∧
    (WellFormed i → t.status = if i = .hlt then .halted else s.status)) ∧
  (∀ s : State, s.status = .running → ∃ t, step s = .next t)

/-- The driving loop under fuel: while the run goes on and fuel is left it is one step and then the loop with one less, and
else it stays where it is. The outcome the host reads is the status: none while Running, else one of the three
(40_engine_cycle.md sections 3 and 4, R119, R122, R124). That Halted is an outcome is decision D7. That the loop's boundary
check is a step of the model, and the exception a next state, is inferred (log 6). -/
def Obligations.DrivingLoopStepsUntilTheRunEnds : Prop :=
  ∀ s : State,
    drive 0 s = .next s ∧
    (s.status = .running → ∀ k, ∃ t, step s = .next t ∧ drive (k + 1) s = drive k t) ∧
    (s.status ≠ .running → ∀ k, drive k s = .next s) ∧
    (runOutcome s = none ↔ s.status = .running) ∧
    (runOutcome s = some .boundary ↔ s.status = .boundary) ∧
    (∀ addr op, runOutcome s = some (.unimplementedOpcode addr op) ↔ s.status = .fault addr op) ∧
    (runOutcome s = some .halted ↔ s.status = .halted)

/-- The driving loop stays at the last state of an ended run, however much fuel is left (40_engine_cycle.md sections 3
and 4). -/
def Obligations.EndedRunKeepsItsLastState : Prop :=
  ∀ (k m : Nat) (s t : State), drive k s = .next t → t.status ≠ .running → drive (k + m) s = .next t

/-- Each executed instruction is reported by one trace event, with its address, its opcode byte and the snapshot of the
state it leaves; a step that raises the exception, and the boundary check, report none (40_engine_cycle.md section 3;
`pc0` in the event is decision D14; the trace as a function is log 7; that the last two are steps of the model is log 6). -/
def Obligations.TraceReportsExecutedInstructions : Prop :=
  ∀ s t : State, step s = .next t →
    (traceEvent s =
      if s.pc.toNat < s.imageEnd ∧ Config.implemented (readMem s.pc s) = true then
        some { pc0 := s.pc, op := readMem s.pc s,
               snapshot := { a := t.a, b := t.b, c := t.c, d := t.d, e := t.e, h := t.h, l := t.l, sp := t.sp, pc := t.pc,
                             flags := t.flags, inte := t.inte } }
      else none)

/-! ## The invariant -/

/-- The state after reset meets the invariant (70_reset_and_hazards.md sections 1 and 2). The reset state with its empty image
is the model's choice (log 1), as is the field for the image bound (log 2); memory's canonical form is inferred (log 9). -/
def Obligations.ResetMeetsInv : Prop := Inv State.reset

/-- Every launched state meets the invariant: the image lies below 0x10000 and the run goes on (70_reset_and_hazards.md
sections 1 and 2, R405, decision D16). The field for the image bound is the model's choice (log 2); memory's canonical form is
inferred (log 9). -/
def Obligations.LaunchMeetsInv : Prop :=
  ∀ (entry : Word) (image : List Byte) (t : State), launch entry image = .next t → Inv t

/-- Every step keeps the invariant: memory's canonical form, the image inside memory, and that an ended run shows why it
ended (40_engine_cycle.md sections 1 to 3, 60_exceptions.md section 1). The image bound is R405 (70_reset_and_hazards.md
section 2, decision D16) and Halted is R353 (47_control.md, decision D7). The field for the bound is the model's choice (log
2). Memory's canonical form is inferred (log 9), and so is that the boundary check and the exception are next states
(log 6). -/
def Obligations.StepKeepsInv : Prop :=
  ∀ s t : State, Inv s → step s = .next t → Inv t

/-! ## What each instruction leaves unchanged -/

/-- Every register but those an instruction's rule names keeps its value, and `SP` too where the rule does not name it
(10_state.md sections 2 and 3). -/
def Obligations.RegistersOutsideTheRuleKept : Prop :=
  ∀ (i : Instr) (s t : State), exec i s = .next t →
    (∀ r, r ∉ writtenRegs i → readReg r t = readReg r s) ∧ (mayWriteSp i = false → t.sp = s.sp)

/-- Every flag outside the flags-written table keeps its value (10_state.md section 4, table of R33). -/
def Obligations.FlagsOutsideTheTableKept : Prop :=
  ∀ (i : Instr) (s t : State), exec i s = .next t →
    ∀ n, n ∉ writtenFlags i → flagValue n t.flags = flagValue n s.flags

/-- Every byte of memory outside the addresses an instruction stores to reads as before (20_memory.md sections 1 to 3). -/
def Obligations.MemoryOutsideTheStoresKept : Prop :=
  ∀ (i : Instr) (s t : State), exec i s = .next t → SameMemoryBut (storedBytes i s) s t

/-- Only EI and DI write INTE, only HLT and the rows UNDEFINED write the status, only IN takes a draw, and nothing changes
the run parameter `IMAGE_END` (10_state.md section 5; the last two fields are the model's, log 2 and log 3). That HLT sets
Halted is decision D7. That executing a row UNDEFINED gives a next state with status Fault is inferred (log 6). -/
def Obligations.ControlStateKept : Prop :=
  ∀ (i : Instr) (s t : State), exec i s = .next t →
    t.inte = (if i = .ei then true else if i = .di then false else s.inte) ∧
    t.status = (if i = .hlt then .halted else if WellFormed i then s.status else .fault s.pc (opcodeOf i)) ∧
    t.imageEnd = s.imageEnd ∧
    (∀ port, i = .inPort port → t.inDraws = s.inDraws + 1) ∧
    ((∀ port, i ≠ .inPort port) → t.inDraws = s.inDraws)

/-- Every instruction that is no transfer of control ends at the next instruction, its opcode's address plus its length,
modulo 2^16 (40_engine_cycle.md section 3; the wrap is decision D5). -/
def Obligations.SequentialProgramCounter : Prop :=
  ∀ (i : Instr) (s t : State), exec i s = .next t → mayLeaveSequence i = false →
    t.pc.toNat = (s.pc.toNat + (encode i).length) % 0x10000

/-- INTE has no effect on execution: EI and DI write it, the snapshot shows it, and nothing reads it. Every other
instruction, and every step that meets no EI or DI, does the same whatever INTE holds and carries it along (R374). -/
def Obligations.InterruptEnableHasNoEffect : Prop :=
  (∀ (i : Instr) (v : Bool) (s : State),
    exec i { s with inte := v } =
      if i = .ei ∨ i = .di then exec i s else mapNext (fun t => { t with inte := v }) (exec i s)) ∧
  (∀ (v : Bool) (s : State), readMem s.pc s ≠ 0xFB → readMem s.pc s ≠ 0xF3 →
    step { s with inte := v } = mapNext (fun t => { t with inte := v }) (step s)) ∧
  (∀ s t : State, exec .ei s = .next t → t.inte = true) ∧
  (∀ s t : State, exec .di s = .next t → t.inte = false) ∧
  (∀ s : State, (snapshotOf s).inte = s.inte)

/-- Only IN reads a draw: every other instruction does the same whatever the draws (40_engine_cycle.md section 4, a
statement marked `[derived]` there; the draw counter is the model's, log 3). -/
def Obligations.OnlyInputTakesADraw : Prop :=
  ∀ (i : Instr) (n : Nat) (s : State), (∀ port, i ≠ .inPort port) →
    exec i { s with inDraws := n } = mapNext (fun t => { t with inDraws := n }) (exec i s)

/-! ## Data transfer (41_data_transfer.md) -/

/-- `MOV d,r` copies the register and changes nothing else but `PC`; with d = r nothing changes but `PC` (R141, whose
opcode map is marked `[from general knowledge, not in source]`). -/
def Obligations.MoveBetweenRegisters : Prop :=
  ∀ (dst src : Reg) (s : State),
    encode (Instr.ofMov dst src) = [0b01#2 ++ regCode dst ++ regCode src] ∧
    exec (Instr.ofMov dst src) s = .next { writeReg dst (readReg src s) s with pc := s.pc + 1 } ∧
    exec (Instr.ofMov src src) s = .next { s with pc := s.pc + 1 }

/-- `MOV r,M` loads the byte at HL, the HL before the write (R142). -/
def Obligations.MoveFromMemory : Prop :=
  ∀ (dst : Reg) (s : State),
    encode (Instr.ofMovFromMem dst) = [0b01#2 ++ regCode dst ++ 0b110#3] ∧
    exec (Instr.ofMovFromMem dst) s = .next { writeReg dst (readMem (combine s.h s.l) s) s with pc := s.pc + 1 }

/-- `MOV M,r` and `MVI M,d8` store one byte at HL and change nothing else but `PC` (R143, R145). -/
def Obligations.StoresAtHl : Prop :=
  (∀ (r : Reg) (s : State), encode (Instr.ofMovToMem r) = [0b01#2 ++ 0b110#3 ++ regCode r] ∧
    exec (Instr.ofMovToMem r) s =
      .next { s with mem := Memory.write s.mem (combine s.h s.l) (readReg r s), pc := s.pc + 1 }) ∧
  (∀ (v : Byte) (s : State), encode (.mviM v) = [0x36, v] ∧
    exec (.mviM v) s = .next { s with mem := Memory.write s.mem (combine s.h s.l) v, pc := s.pc + 2 })

/-- `MVI r,d8` loads the immediate (R144). -/
def Obligations.MoveImmediate : Prop :=
  ∀ (dst : Reg) (v : Byte) (s : State),
    encode (Instr.ofMvi dst v) = [0b00#2 ++ regCode dst ++ 0b110#3, v] ∧
    exec (Instr.ofMvi dst v) s = .next { writeReg dst v s with pc := s.pc + 2 }

/-- `LXI rp,d16`: `b1`, the byte after the opcode, lands in the low register and `b2` in the high one; `LXI SP` loads
`imm16 = b2 ++ b1` (R146). -/
def Obligations.LoadPairImmediate : Prop :=
  ∀ (p : Pair16) (b1 b2 : Byte) (s : State),
    encode (Instr.ofLxi p (b2 ++ b1)) = [0b00#2 ++ pair16Code p ++ 0b0001#4, b1, b2] ∧
    exec (Instr.ofLxi p (b2 ++ b1)) s = .next
      (match p with
       | .bc => { s with b := b2, c := b1, pc := s.pc + 3 }
       | .de => { s with d := b2, e := b1, pc := s.pc + 3 }
       | .hl => { s with h := b2, l := b1, pc := s.pc + 3 }
       | .sp => { s with sp := b2 ++ b1, pc := s.pc + 3 })

/-- `LDA a16` and `STA a16` move A from and to the direct address (R147, R148). -/
def Obligations.DirectAccumulatorMoves : Prop :=
  ∀ (b1 b2 : Byte) (s : State),
    encode (.lda (b2 ++ b1)) = [0x3A, b1, b2] ∧ encode (.sta (b2 ++ b1)) = [0x32, b1, b2] ∧
    exec (.lda (b2 ++ b1)) s = .next { s with a := readMem (b2 ++ b1) s, pc := s.pc + 3 } ∧
    exec (.sta (b2 ++ b1)) s = .next { s with mem := Memory.write s.mem (b2 ++ b1) s.a, pc := s.pc + 3 }

/-- `LHLD a16` and `SHLD a16`: L is the byte at the address, H the byte at the next address, modulo 2^16; SHLD leaves every
other byte alone. LDAX and STAX move A from and to the byte at BC or DE (41_data_transfer.md R149 to R152, supplied by
decision D2 and general knowledge). -/
def Obligations.IndirectAndPairMoves : Prop :=
  (∀ (a : Word) (s : State),
    exec (.lhld a) s = .next { s with l := readMem a s, h := readMem (a + 1) s, pc := s.pc + 3 }) ∧
  (∀ (a : Word) (s : State), ∃ t,
    exec (.shld a) s = .next t ∧ readMem a t = s.l ∧ readMem (a + 1) t = s.h ∧ SameMemoryBut [a, a + 1] s t ∧
    t = { s with mem := t.mem, pc := s.pc + 3 }) ∧
  (∀ s : State,
    exec .ldaxB s = .next { s with a := readMem (combine s.b s.c) s, pc := s.pc + 1 } ∧
    exec .ldaxD s = .next { s with a := readMem (combine s.d s.e) s, pc := s.pc + 1 } ∧
    exec .staxB s = .next { s with mem := Memory.write s.mem (combine s.b s.c) s.a, pc := s.pc + 1 } ∧
    exec .staxD s = .next { s with mem := Memory.write s.mem (combine s.d s.e) s.a, pc := s.pc + 1 })

/-- `XCHG` swaps D with H and E with L; two of them restore both pairs (R153). -/
def Obligations.ExchangePairs : Prop :=
  encode .xchg = [0xEB] ∧
  ∀ s : State, exec .xchg s = .next { s with d := s.h, e := s.l, h := s.d, l := s.e, pc := s.pc + 1 } ∧
    ∀ t, exec .xchg s = .next t → exec .xchg t = .next { s with pc := s.pc + 2 }

/-! ## Arithmetic (42_arithmetic.md) -/

/-- The operand of an ALU instruction is the register, the byte at HL for M, or the immediate byte as it stands (R82, R86).
ADD, ADC, ADI, ACI: A is the sum with the operand, and the carry for ADC and ACI, modulo 256; CY is the carry out of
bit 7, AC the carry out of bit 3, and Z, S, P are those of the result. The AC rule is decision D3 (42_arithmetic.md sections
1 and 2). -/
def Obligations.AdditionResultAndFlags : Prop :=
  (∀ (r : Reg) (s : State), operandValue (.reg r) s = readReg r s) ∧
  (∀ s : State, operandValue .mem s = readMem (combine s.h s.l) s) ∧
  (∀ (v : Byte) (s : State), operandValue (.imm v) s = v) ∧
  ∀ (withCarry : Bool) (v : Src) (s : State),
    let x := operandValue v s
    let cin := if withCarry = true ∧ s.flags.cy = true then 1 else 0
    let r := BitVec.ofNat 8 (s.a.toNat + x.toNat + cin)
    exec (Instr.ofAlu (if withCarry then .adc else .add) v) s = .next { s with
      a := r,
      flags := { z := decide (r = 0), s := decide (128 ≤ r.toNat), p := parity r,
                 cy := decide (256 ≤ s.a.toNat + x.toNat + cin),
                 ac := decide (16 ≤ s.a.toNat % 16 + x.toNat % 16 + cin) },
      pc := s.pc + BitVec.ofNat 16 (encode (Instr.ofAlu .add v)).length }

/-- With the operand as AdditionResultAndFlags gives it, SUB, SBB, SUI, SBI: A is the difference, less the borrow for SBB and
SBI, modulo 256; CY is the borrow, AC is 1 iff there is no borrow out of bit 3, and Z, S, P are those of the result. The AC
rule is decision D3 (42_arithmetic.md sections 1 and 3). -/
def Obligations.SubtractionResultAndFlags : Prop :=
  ∀ (withBorrow : Bool) (v : Src) (s : State),
    let x := operandValue v s
    let bin := if withBorrow = true ∧ s.flags.cy = true then 1 else 0
    let r := BitVec.ofNat 8 (s.a.toNat + 512 - x.toNat - bin)
    exec (Instr.ofAlu (if withBorrow then .sbb else .sub) v) s = .next { s with
      a := r,
      flags := { z := decide (r = 0), s := decide (128 ≤ r.toNat), p := parity r,
                 cy := decide (s.a.toNat < x.toNat + bin),
                 ac := decide (x.toNat % 16 + bin ≤ s.a.toNat % 16) },
      pc := s.pc + BitVec.ofNat 16 (encode (Instr.ofAlu .sub v)).length }

/-- CMP and CPI leave everything as SUB and SUI do but A, which they keep; Z is 1 iff A equals the operand and CY iff A is
lower, as unsigned bytes (42_arithmetic.md section 4; CMP is supplied by decision D2). -/
def Obligations.CompareIsSubtractionWithoutResult : Prop :=
  ∀ (v : Src) (s : State), ∃ t u,
    exec (Instr.ofAlu .cmp v) s = .next t ∧ exec (Instr.ofAlu .sub v) s = .next u ∧ t = { u with a := s.a } ∧
    t.flags.z = decide (s.a = operandValue v s) ∧ t.flags.cy = decide (s.a.toNat < (operandValue v s).toNat)

/-- INR and DCR on a register: it becomes itself plus or minus one modulo 256, with Z, S, P of the result and AC the carry, or
no borrow, at bit 3; CY is kept. INR M and DCR M do the same to the byte at HL, which they read before they write it. The AC
rule is decision D3 (42_arithmetic.md section 5). -/
def Obligations.IncrementDecrement : Prop :=
  (∀ (r : Reg) (s : State),
    (let v := BitVec.ofNat 8 ((readReg r s).toNat + 1)
     exec (Instr.ofInr r) s = .next { writeReg r v s with
       flags := { z := decide (v = 0), s := decide (128 ≤ v.toNat), p := parity v, cy := s.flags.cy,
                  ac := decide (16 ≤ (readReg r s).toNat % 16 + 1) },
       pc := s.pc + 1 }) ∧
    (let v := BitVec.ofNat 8 ((readReg r s).toNat + 255)
     exec (Instr.ofDcr r) s = .next { writeReg r v s with
       flags := { z := decide (v = 0), s := decide (128 ≤ v.toNat), p := parity v, cy := s.flags.cy,
                  ac := decide (1 ≤ (readReg r s).toNat % 16) },
       pc := s.pc + 1 })) ∧
  (∀ s : State,
    (let old := readMem (combine s.h s.l) s
     let v := BitVec.ofNat 8 (old.toNat + 1)
     exec .inrM s = .next { s with
       mem := Memory.write s.mem (combine s.h s.l) v,
       flags := { z := decide (v = 0), s := decide (128 ≤ v.toNat), p := parity v, cy := s.flags.cy,
                  ac := decide (16 ≤ old.toNat % 16 + 1) },
       pc := s.pc + 1 }) ∧
    (let old := readMem (combine s.h s.l) s
     let v := BitVec.ofNat 8 (old.toNat + 255)
     exec .dcrM s = .next { s with
       mem := Memory.write s.mem (combine s.h s.l) v,
       flags := { z := decide (v = 0), s := decide (128 ≤ v.toNat), p := parity v, cy := s.flags.cy,
                  ac := decide (1 ≤ old.toNat % 16) },
       pc := s.pc + 1 }))

/-- INX and DCX: a pair or SP plus or minus one modulo 2^16, through its view; no flag changes (R192, R193). -/
def Obligations.PairIncrementDecrement : Prop :=
  ∀ (p : Pair16) (s : State),
    encode (Instr.ofInx p) = [0b00#2 ++ pair16Code p ++ 0b0011#4] ∧
    encode (Instr.ofDcx p) = [0b00#2 ++ pair16Code p ++ 0b1011#4] ∧
    (∃ t, exec (Instr.ofInx p) s = .next t ∧ (readPair16 p t).toNat = ((readPair16 p s).toNat + 1) % 0x10000 ∧
      t = { writePair16 p (readPair16 p t) s with pc := s.pc + 1 }) ∧
    (∃ t, exec (Instr.ofDcx p) s = .next t ∧ (readPair16 p t).toNat = ((readPair16 p s).toNat + 0xFFFF) % 0x10000 ∧
      t = { writePair16 p (readPair16 p t) s with pc := s.pc + 1 })

/-- DAD: HL is the sum with a pair or SP modulo 2^16, CY the carry out of it, and no other flag changes; that SP is a legal
operand is general knowledge (42_arithmetic.md section 6). -/
def Obligations.DoubleAdd : Prop :=
  ∀ (p : Pair16) (s : State),
    let sum := (combine s.h s.l).toNat + (readPair16 p s).toNat
    exec (Instr.ofDad p) s = .next { s with
      h := BitVec.ofNat 8 (sum / 256), l := BitVec.ofNat 8 sum,
      flags := { s.flags with cy := decide (0x10000 ≤ sum) },
      pc := s.pc + 1 }

/-- DAA: 6 is added to A when AC is set or the low digit is above 9, and 0x60 when CY is set, the high digit is above 9, or
it is 9 and the low digit above 9; AC, Z, S, P are of that addition and CY of the high correction (42_arithmetic.md section
7, supplied by decision D2). -/
def Obligations.DecimalAdjust : Prop :=
  ∀ s : State,
    let lo := s.a.toNat % 16
    let hi := s.a.toNat / 16
    let low : Nat := if s.flags.ac = true ∨ 9 < lo then 6 else 0
    let high : Nat := if s.flags.cy = true ∨ 9 < hi ∨ (9 ≤ hi ∧ 9 < lo) then 96 else 0
    let r := BitVec.ofNat 8 (s.a.toNat + low + high)
    exec .daa s = .next { s with
      a := r,
      flags := { z := decide (r = 0), s := decide (128 ≤ r.toNat), p := parity r,
                 cy := decide (high = 96), ac := decide (16 ≤ lo + low) },
      pc := s.pc + 1 }

/-! ## Logic, rotates and carry (43_logical.md) -/

/-- ANA, XRA, ORA and their immediate forms: A is the bitwise result, CY is 0, Z, S, P are of the result, and AC is the OR of
bit 3 of the operands for AND and 0 otherwise; the AC rule is decision D3 (43_logical.md sections 1 to 4). -/
def Obligations.LogicResultAndFlags : Prop :=
  ∀ (v : Src) (s : State),
    let x := operandValue v s
    let result (r : Byte) (ac : Bool) : State := { s with
      a := r,
      flags := { z := decide (r = 0), s := decide (128 ≤ r.toNat), p := parity r, cy := false, ac := ac },
      pc := s.pc + BitVec.ofNat 16 (encode (Instr.ofAlu .ana v)).length }
    exec (Instr.ofAlu .ana v) s = .next (result (s.a &&& x) (s.a.getLsbD 3 || x.getLsbD 3)) ∧
    exec (Instr.ofAlu .xra v) s = .next (result (s.a ^^^ x) false) ∧
    exec (Instr.ofAlu .ora v) s = .next (result (s.a ||| x) false)

/-- The four rotates move A by one bit, with the bit that leaves going to CY and, for RLC and RRC, back in at the other end,
for RAL and RAR the old CY instead; no other flag changes, and RAR undoes RAL (43_logical.md section 5; RLC, RAL and RAR are
supplied by decision D2). -/
def Obligations.Rotates : Prop :=
  ∀ s : State,
    let n := s.a.toNat
    let cin := if s.flags.cy then 1 else 0
    let result (r : Nat) (cy : Bool) : State := { s with
      a := BitVec.ofNat 8 r, flags := { s.flags with cy := cy }, pc := s.pc + 1 }
    exec .rlc s = .next (result (2 * n + n / 128) (decide (128 ≤ n))) ∧
    exec .rrc s = .next (result (n / 2 + 128 * (n % 2)) (decide (n % 2 = 1))) ∧
    exec .ral s = .next (result (2 * n + cin) (decide (128 ≤ n))) ∧
    exec .rar s = .next (result (n / 2 + 128 * cin) (decide (n % 2 = 1))) ∧
    (∀ t, exec .ral s = .next t → exec .rar t = .next { s with pc := s.pc + 2 })

/-- CMA complements A and no flag; CMC complements CY and STC sets it, and neither changes anything else but `PC`
(43_logical.md section 6, supplied by decision D2). -/
def Obligations.ComplementAndCarry : Prop :=
  ∀ s : State,
    exec .cma s = .next { s with a := BitVec.ofNat 8 (255 - s.a.toNat), pc := s.pc + 1 } ∧
    exec .cmc s = .next { s with flags := { s.flags with cy := !s.flags.cy }, pc := s.pc + 1 } ∧
    exec .stc s = .next { s with flags := { s.flags with cy := true }, pc := s.pc + 1 }

/-! ## Jumps, calls and returns (44_branch.md, 45_subroutine.md) -/

/-- The condition predicate, code by code (R260). -/
def Obligations.ConditionPredicate : Prop :=
  ∀ (cond : Cond) (f : Flags),
    condHolds cond f = true ↔
      (condCode cond = 0b000 ∧ f.z = false) ∨ (condCode cond = 0b001 ∧ f.z = true) ∨
      (condCode cond = 0b010 ∧ f.cy = false) ∨ (condCode cond = 0b011 ∧ f.cy = true) ∨
      (condCode cond = 0b100 ∧ f.p = false) ∨ (condCode cond = 0b101 ∧ f.p = true) ∨
      (condCode cond = 0b110 ∧ f.s = false) ∨ (condCode cond = 0b111 ∧ f.s = true)

/-- JMP and the eight conditional jumps: `PC` is the target when the condition holds, else the address after the three
bytes; nothing else changes (R261 to R269, whose opcode values are marked `[from general knowledge, not in source]`). -/
def Obligations.JumpsSetTheProgramCounter : Prop :=
  ∀ (b1 b2 : Byte) (s : State),
    (encode (.jmp (b2 ++ b1)) = [0xC3, b1, b2] ∧ exec (.jmp (b2 ++ b1)) s = .next { s with pc := b2 ++ b1 }) ∧
    ∀ cond, encode (Instr.ofJcc cond (b2 ++ b1)) = [0b11#2 ++ condCode cond ++ 0b010#3, b1, b2] ∧
      exec (Instr.ofJcc cond (b2 ++ b1)) s = .next { s with
        pc := if condHolds cond s.flags = true then b2 ++ b1 else s.pc + 3 }

/-- CALL pushes the address after its three bytes, the high byte at `SP - 1` and the low byte at `SP - 2`, and jumps; no
other byte of memory, no register and no flag changes. The eight conditional calls do so when their condition holds, else
only `PC` goes past the three bytes (45_subroutine.md sections 1 and 2; the conditional calls are supplied by decision D2). -/
def Obligations.CallsPushTheReturnAddress : Prop :=
  ∀ (a : Word) (s : State),
    (∃ t, exec (.call a) s = .next t ∧ Pushed (s.pc + 3) s t ∧ t = { s with mem := t.mem, sp := t.sp, pc := a }) ∧
    ∀ cond, ∃ t, exec (Instr.ofCcc cond a) s = .next t ∧
      (condHolds cond s.flags = true → Pushed (s.pc + 3) s t ∧ t = { s with mem := t.mem, sp := t.sp, pc := a }) ∧
      (condHolds cond s.flags = false → t = { s with pc := s.pc + 3 })

/-- RET takes `PC` from the two bytes at `SP`, the low byte first, and raises `SP` by 2; nothing else changes. The eight
conditional returns do so when their condition holds, else only `PC` goes past the one byte. CALL then RET resumes after the
CALL with `SP` as before it, whatever `SP` was (45_subroutine.md section 3; the conditional returns are supplied by decision
D2, the last sentence is marked `[derived]`). -/
def Obligations.ReturnsPopTheProgramCounter : Prop :=
  (∀ s : State,
    exec .ret s = .next { s with pc := combine (readMem (s.sp + 1) s) (readMem s.sp s), sp := s.sp + 2 } ∧
    ∀ cond, exec (Instr.ofRcc cond) s =
      if condHolds cond s.flags = true then
        .next { s with pc := combine (readMem (s.sp + 1) s) (readMem s.sp s), sp := s.sp + 2 }
      else .next { s with pc := s.pc + 1 }) ∧
  (∀ (a : Word) (s t : State), exec (.call a) s = .next t → exec .ret t = .next { s with mem := t.mem, pc := s.pc + 3 })

/-- RST n pushes the address after its one byte and jumps to 8 times n; it does not change INTE (45_subroutine.md section 4,
supplied by decision D2). -/
def Obligations.Restarts : Prop :=
  ∀ (n : BitVec 3) (s : State),
    ∃ t, exec (Instr.ofRst n) s = .next t ∧ Pushed (s.pc + 1) s t ∧ t.pc.toNat = 8 * n.toNat ∧
      t = { s with mem := t.mem, sp := t.sp, pc := t.pc }

/-! ## The stack (46_stack.md) -/

/-- PUSH rp puts the high register at `SP - 1` and the low register at `SP - 2` and lowers `SP` by 2; no register, no flag and
no other byte of memory changes (R331, whose opcode values are marked `[from general knowledge, not in source]`). -/
def Obligations.PushPair : Prop :=
  ∀ (p : RegPair) (s : State),
    encode (Instr.ofPush p) = [0b11#2 ++ pairCode p ++ 0b0101#4] ∧
    ∃ t, exec (Instr.ofPush p) s = .next t ∧ readMem (s.sp - 1) t = readReg (highReg p) s ∧
      readMem (s.sp - 2) t = readReg (lowReg p) s ∧ t.sp = s.sp - 2 ∧ SameMemoryBut [s.sp - 1, s.sp - 2] s t ∧
      t = { s with mem := t.mem, sp := t.sp, pc := s.pc + 1 }

/-- POP rp takes the low register from `SP` and the high one from `SP + 1` and raises `SP` by 2; after PUSH of a pair, POP of
a pair copies the pushed one and restores `SP` (R333, whose opcode values are marked `[from general knowledge, not in
source]`). -/
def Obligations.PopPair : Prop :=
  (∀ (p : RegPair) (s : State),
    encode (Instr.ofPop p) = [0b11#2 ++ pairCode p ++ 0b0001#4] ∧
    exec (Instr.ofPop p) s = .next { writePair p (combine (readMem (s.sp + 1) s) (readMem s.sp s)) s with
      sp := s.sp + 2, pc := s.pc + 1 }) ∧
  (∀ (p q : RegPair) (s t : State), exec (Instr.ofPush p) s = .next t →
    exec (Instr.ofPop q) t = .next { writePair q (readPair p s) s with mem := t.mem, pc := s.pc + 2 })

/-- PUSH PSW stores A at `SP - 1` and the packed flags at `SP - 2`, with Z, S, P, CY, AC in bits 0 to 4 and bits 7 to 5
clear; POP PSW takes A from `SP + 1` and the flags from bits 0 to 4 of the byte at `SP`, whatever its bits 7 to 5; one after
the other restores A, the flags and `SP` (46_stack.md; bits 7 to 5 are decision D4, the last sentence is marked
`[derived]`). -/
def Obligations.AccumulatorAndFlagsOnTheStack : Prop :=
  (∀ s : State, ∃ t, exec .pushPsw s = .next t ∧ readMem (s.sp - 1) t = s.a ∧
    (readMem (s.sp - 2) t).toNat =
      (if s.flags.z then 1 else 0) + (if s.flags.s then 2 else 0) + (if s.flags.p then 4 else 0) +
      (if s.flags.cy then 8 else 0) + (if s.flags.ac then 16 else 0) ∧
    t.sp = s.sp - 2 ∧ SameMemoryBut [s.sp - 1, s.sp - 2] s t ∧
    t = { s with mem := t.mem, sp := t.sp, pc := s.pc + 1 }) ∧
  (∀ s : State, exec .popPsw s = .next { s with
      a := readMem (s.sp + 1) s,
      flags := { z := (readMem s.sp s).getLsbD 0, s := (readMem s.sp s).getLsbD 1, p := (readMem s.sp s).getLsbD 2,
                 cy := (readMem s.sp s).getLsbD 3, ac := (readMem s.sp s).getLsbD 4 },
      sp := s.sp + 2, pc := s.pc + 1 }) ∧
  (∀ s t : State, exec .pushPsw s = .next t → exec .popPsw t = .next { s with mem := t.mem, pc := s.pc + 2 })

/-- XTHL exchanges L with the byte at `SP` and H with the byte at `SP + 1`, `SP` unchanged; SPHL loads `SP` from HL; PCHL
loads `PC` from HL (46_stack.md and 44_branch.md, all three supplied by decision D2). -/
def Obligations.ExchangesAndLoadsOfHl : Prop :=
  ∀ s : State,
    (∃ t, exec .xthl s = .next t ∧ readMem s.sp t = s.l ∧ readMem (s.sp + 1) t = s.h ∧
      SameMemoryBut [s.sp, s.sp + 1] s t ∧
      t = { s with mem := t.mem, l := readMem s.sp s, h := readMem (s.sp + 1) s, pc := s.pc + 1 }) ∧
    exec .sphl s = .next { s with sp := combine s.h s.l, pc := s.pc + 1 } ∧
    exec .pchl s = .next { s with pc := combine s.h s.l }

/-! ## Control, input and output (47_control.md) -/

/-- EI sets INTE and DI clears it, at once; NOP and OUT change nothing but `PC`; HLT moves `PC` past its byte and sets the
status to Halted; IN writes to A one byte that nothing constrains, the next draw for its port (47_control.md; the moment of
EI is decision D12, HLT decision D7, IN decision D8). The draw counter is the model's (log 3): this holds for every value of
it. -/
def Obligations.ControlAndInputOutput : Prop :=
  ∀ (s : State) (port : Byte),
    exec .ei s = .next { s with inte := true, pc := s.pc + 1 } ∧
    exec .di s = .next { s with inte := false, pc := s.pc + 1 } ∧
    exec .nop s = .next { s with pc := s.pc + 1 } ∧
    exec (.outPort port) s = .next { s with pc := s.pc + 2 } ∧
    exec .hlt s = .next { s with pc := s.pc + 1, status := .halted } ∧
    exec (.inPort port) s = .next { s with
      a := Config.inValue s.inDraws port, inDraws := s.inDraws + 1, pc := s.pc + 2 }
end

