-- ==== Sys2Proof/Laws/Decode.lean ====
section
/-! SUPPORT. What the decoder does for each length of instruction, and the bytes of a 16-bit immediate. -/

namespace Sys2Proof

theorem instrLength_cases (op : Byte) : instrLength op = 1 ∨ instrLength op = 2 ∨ instrLength op = 3 := by
  unfold instrLength
  split_ifs <;> simp

theorem decode_one {op : Byte} (h : instrLength op = 1) (rest : List Byte) :
    decode (op :: rest) = .ok (decodeOp op 0 0) rest := by
  simp [decode, h]

theorem decode_two {op : Byte} (h : instrLength op = 2) (b1 : Byte) (rest : List Byte) :
    decode (op :: b1 :: rest) = .ok (decodeOp op b1 0) rest := by
  simp [decode, h]

theorem decode_three {op : Byte} (h : instrLength op = 3) (b1 b2 : Byte) (rest : List Byte) :
    decode (op :: b1 :: b2 :: rest) = .ok (decodeOp op b1 b2) rest := by
  simp [decode, h]

/-- The bytes of a 16-bit immediate put together give it back (R87). -/
theorem imm16_imm16Bytes (v : Word) : imm16 (v.extractLsb' 0 8) (v.extractLsb' 8 8) = v := by
  have := v.isLt
  apply BitVec.eq_of_getLsbD_eq
  intro i hi
  simp only [imm16, BitVec.getLsbD_append, BitVec.getLsbD_extractLsb']
  split_ifs with h
  · simp [h]
  · simp only [show i - 8 < 8 by omega, decide_true, Bool.true_and, show 8 + (i - 8) = i by omega]

/-- Two bytes put together give themselves back as the operand bytes (R87). -/
theorem imm16Bytes_imm16 (b1 b2 : Byte) : imm16Bytes (imm16 b1 b2) = [b1, b2] := by
  simp only [imm16Bytes, imm16, List.cons.injEq, and_true]
  constructor <;> apply BitVec.eq_of_getLsbD_eq <;> intro i hi <;> rw [BitVec.getLsbD_extractLsb']
  · simpa [hi] using BitVec.getLsbD_append (x := b2) (y := b1) (i := 0 + i)
  · simpa [hi] using BitVec.getLsbD_append (x := b2) (y := b1) (i := 8 + i)

end Sys2Proof
end

