-- ==== Sys2Proof/Laws/Families.lean ====
section
/-! SUPPORT. Statements over all instructions, by family: an eliminator with one case per family, and for each family what
exec does and what the tables of Safety.lean say, for all operands at once. -/

namespace Sys2Proof

open Machine

/-- To prove a property of every instruction, prove it of every family. -/
theorem Instr.family_cases {P : Instr → Prop}
    (ofMov : ∀ (dst : Reg) (src : Reg), P (Instr.ofMov dst src))
    (ofMovFromMem : ∀ (dst : Reg), P (Instr.ofMovFromMem dst))
    (ofMovToMem : ∀ (src : Reg), P (Instr.ofMovToMem src))
    (ofMvi : ∀ (dst : Reg) (d8 : Byte), P (Instr.ofMvi dst d8))
    (ofLxi : ∀ (p : Pair16) (d16 : Word), P (Instr.ofLxi p d16))
    (ofInr : ∀ (r : Reg), P (Instr.ofInr r))
    (ofDcr : ∀ (r : Reg), P (Instr.ofDcr r))
    (ofInx : ∀ (p : Pair16), P (Instr.ofInx p))
    (ofDcx : ∀ (p : Pair16), P (Instr.ofDcx p))
    (ofDad : ∀ (p : Pair16), P (Instr.ofDad p))
    (ofAlu_add : ∀ (v : Src), P (Instr.ofAlu .add v))
    (ofAlu_adc : ∀ (v : Src), P (Instr.ofAlu .adc v))
    (ofAlu_sub : ∀ (v : Src), P (Instr.ofAlu .sub v))
    (ofAlu_sbb : ∀ (v : Src), P (Instr.ofAlu .sbb v))
    (ofAlu_ana : ∀ (v : Src), P (Instr.ofAlu .ana v))
    (ofAlu_xra : ∀ (v : Src), P (Instr.ofAlu .xra v))
    (ofAlu_ora : ∀ (v : Src), P (Instr.ofAlu .ora v))
    (ofAlu_cmp : ∀ (v : Src), P (Instr.ofAlu .cmp v))
    (ofJcc : ∀ (cond : Cond) (a16 : Word), P (Instr.ofJcc cond a16))
    (ofCcc : ∀ (cond : Cond) (a16 : Word), P (Instr.ofCcc cond a16))
    (ofRcc : ∀ (cond : Cond), P (Instr.ofRcc cond))
    (ofRst : ∀ (n : BitVec 3), P (Instr.ofRst n))
    (ofPush : ∀ (p : RegPair), P (Instr.ofPush p))
    (ofPop : ∀ (p : RegPair), P (Instr.ofPop p))
    (nop : P .nop)
    (staxB : P .staxB)
    (rlc : P .rlc)
    (ldaxB : P .ldaxB)
    (rrc : P .rrc)
    (staxD : P .staxD)
    (ral : P .ral)
    (ldaxD : P .ldaxD)
    (rar : P .rar)
    (shld : ∀ a16, P (.shld a16))
    (daa : P .daa)
    (lhld : ∀ a16, P (.lhld a16))
    (cma : P .cma)
    (sta : ∀ a16, P (.sta a16))
    (inrM : P .inrM)
    (dcrM : P .dcrM)
    (mviM : ∀ d8, P (.mviM d8))
    (stc : P .stc)
    (lda : ∀ a16, P (.lda a16))
    (cmc : P .cmc)
    (hlt : P .hlt)
    (jmp : ∀ a16, P (.jmp a16))
    (ret : P .ret)
    (call : ∀ a16, P (.call a16))
    (outPort : ∀ port, P (.outPort port))
    (inPort : ∀ port, P (.inPort port))
    (xthl : P .xthl)
    (pchl : P .pchl)
    (xchg : P .xchg)
    (popPsw : P .popPsw)
    (di : P .di)
    (pushPsw : P .pushPsw)
    (sphl : P .sphl)
    (ei : P .ei)
    (undefined : ∀ op i, (op, i) ∈ Instr.undefinedRows → P i)
    (i : Instr) : P i :=
  match i with
  | .nop => nop
  | .lxiB d16 => ofLxi .bc d16
  | .staxB => staxB
  | .inxB => ofInx .bc
  | .inrB => ofInr .b
  | .dcrB => ofDcr .b
  | .mviB d8 => ofMvi .b d8
  | .rlc => rlc
  | .undefined08 => undefined 0x08 _ (by decide)
  | .dadB => ofDad .bc
  | .ldaxB => ldaxB
  | .dcxB => ofDcx .bc
  | .inrC => ofInr .c
  | .dcrC => ofDcr .c
  | .mviC d8 => ofMvi .c d8
  | .rrc => rrc
  | .undefined10 => undefined 0x10 _ (by decide)
  | .lxiD d16 => ofLxi .de d16
  | .staxD => staxD
  | .inxD => ofInx .de
  | .inrD => ofInr .d
  | .dcrD => ofDcr .d
  | .mviD d8 => ofMvi .d d8
  | .ral => ral
  | .undefined18 => undefined 0x18 _ (by decide)
  | .dadD => ofDad .de
  | .ldaxD => ldaxD
  | .dcxD => ofDcx .de
  | .inrE => ofInr .e
  | .dcrE => ofDcr .e
  | .mviE d8 => ofMvi .e d8
  | .rar => rar
  | .undefined20 => undefined 0x20 _ (by decide)
  | .lxiH d16 => ofLxi .hl d16
  | .shld a16 => shld a16
  | .inxH => ofInx .hl
  | .inrH => ofInr .h
  | .dcrH => ofDcr .h
  | .mviH d8 => ofMvi .h d8
  | .daa => daa
  | .undefined28 => undefined 0x28 _ (by decide)
  | .dadH => ofDad .hl
  | .lhld a16 => lhld a16
  | .dcxH => ofDcx .hl
  | .inrL => ofInr .l
  | .dcrL => ofDcr .l
  | .mviL d8 => ofMvi .l d8
  | .cma => cma
  | .undefined30 => undefined 0x30 _ (by decide)
  | .lxiSp d16 => ofLxi .sp d16
  | .sta a16 => sta a16
  | .inxSp => ofInx .sp
  | .inrM => inrM
  | .dcrM => dcrM
  | .mviM d8 => mviM d8
  | .stc => stc
  | .undefined38 => undefined 0x38 _ (by decide)
  | .dadSp => ofDad .sp
  | .lda a16 => lda a16
  | .dcxSp => ofDcx .sp
  | .inrA => ofInr .a
  | .dcrA => ofDcr .a
  | .mviA d8 => ofMvi .a d8
  | .cmc => cmc
  | .movBB => ofMov .b .b
  | .movBC => ofMov .b .c
  | .movBD => ofMov .b .d
  | .movBE => ofMov .b .e
  | .movBH => ofMov .b .h
  | .movBL => ofMov .b .l
  | .movBM => ofMovFromMem .b
  | .movBA => ofMov .b .a
  | .movCB => ofMov .c .b
  | .movCC => ofMov .c .c
  | .movCD => ofMov .c .d
  | .movCE => ofMov .c .e
  | .movCH => ofMov .c .h
  | .movCL => ofMov .c .l
  | .movCM => ofMovFromMem .c
  | .movCA => ofMov .c .a
  | .movDB => ofMov .d .b
  | .movDC => ofMov .d .c
  | .movDD => ofMov .d .d
  | .movDE => ofMov .d .e
  | .movDH => ofMov .d .h
  | .movDL => ofMov .d .l
  | .movDM => ofMovFromMem .d
  | .movDA => ofMov .d .a
  | .movEB => ofMov .e .b
  | .movEC => ofMov .e .c
  | .movED => ofMov .e .d
  | .movEE => ofMov .e .e
  | .movEH => ofMov .e .h
  | .movEL => ofMov .e .l
  | .movEM => ofMovFromMem .e
  | .movEA => ofMov .e .a
  | .movHB => ofMov .h .b
  | .movHC => ofMov .h .c
  | .movHD => ofMov .h .d
  | .movHE => ofMov .h .e
  | .movHH => ofMov .h .h
  | .movHL => ofMov .h .l
  | .movHM => ofMovFromMem .h
  | .movHA => ofMov .h .a
  | .movLB => ofMov .l .b
  | .movLC => ofMov .l .c
  | .movLD => ofMov .l .d
  | .movLE => ofMov .l .e
  | .movLH => ofMov .l .h
  | .movLL => ofMov .l .l
  | .movLM => ofMovFromMem .l
  | .movLA => ofMov .l .a
  | .movMB => ofMovToMem .b
  | .movMC => ofMovToMem .c
  | .movMD => ofMovToMem .d
  | .movME => ofMovToMem .e
  | .movMH => ofMovToMem .h
  | .movML => ofMovToMem .l
  | .hlt => hlt
  | .movMA => ofMovToMem .a
  | .movAB => ofMov .a .b
  | .movAC => ofMov .a .c
  | .movAD => ofMov .a .d
  | .movAE => ofMov .a .e
  | .movAH => ofMov .a .h
  | .movAL => ofMov .a .l
  | .movAM => ofMovFromMem .a
  | .movAA => ofMov .a .a
  | .addB => ofAlu_add (.reg .b)
  | .addC => ofAlu_add (.reg .c)
  | .addD => ofAlu_add (.reg .d)
  | .addE => ofAlu_add (.reg .e)
  | .addH => ofAlu_add (.reg .h)
  | .addL => ofAlu_add (.reg .l)
  | .addM => ofAlu_add .mem
  | .addA => ofAlu_add (.reg .a)
  | .adcB => ofAlu_adc (.reg .b)
  | .adcC => ofAlu_adc (.reg .c)
  | .adcD => ofAlu_adc (.reg .d)
  | .adcE => ofAlu_adc (.reg .e)
  | .adcH => ofAlu_adc (.reg .h)
  | .adcL => ofAlu_adc (.reg .l)
  | .adcM => ofAlu_adc .mem
  | .adcA => ofAlu_adc (.reg .a)
  | .subB => ofAlu_sub (.reg .b)
  | .subC => ofAlu_sub (.reg .c)
  | .subD => ofAlu_sub (.reg .d)
  | .subE => ofAlu_sub (.reg .e)
  | .subH => ofAlu_sub (.reg .h)
  | .subL => ofAlu_sub (.reg .l)
  | .subM => ofAlu_sub .mem
  | .subA => ofAlu_sub (.reg .a)
  | .sbbB => ofAlu_sbb (.reg .b)
  | .sbbC => ofAlu_sbb (.reg .c)
  | .sbbD => ofAlu_sbb (.reg .d)
  | .sbbE => ofAlu_sbb (.reg .e)
  | .sbbH => ofAlu_sbb (.reg .h)
  | .sbbL => ofAlu_sbb (.reg .l)
  | .sbbM => ofAlu_sbb .mem
  | .sbbA => ofAlu_sbb (.reg .a)
  | .anaB => ofAlu_ana (.reg .b)
  | .anaC => ofAlu_ana (.reg .c)
  | .anaD => ofAlu_ana (.reg .d)
  | .anaE => ofAlu_ana (.reg .e)
  | .anaH => ofAlu_ana (.reg .h)
  | .anaL => ofAlu_ana (.reg .l)
  | .anaM => ofAlu_ana .mem
  | .anaA => ofAlu_ana (.reg .a)
  | .xraB => ofAlu_xra (.reg .b)
  | .xraC => ofAlu_xra (.reg .c)
  | .xraD => ofAlu_xra (.reg .d)
  | .xraE => ofAlu_xra (.reg .e)
  | .xraH => ofAlu_xra (.reg .h)
  | .xraL => ofAlu_xra (.reg .l)
  | .xraM => ofAlu_xra .mem
  | .xraA => ofAlu_xra (.reg .a)
  | .oraB => ofAlu_ora (.reg .b)
  | .oraC => ofAlu_ora (.reg .c)
  | .oraD => ofAlu_ora (.reg .d)
  | .oraE => ofAlu_ora (.reg .e)
  | .oraH => ofAlu_ora (.reg .h)
  | .oraL => ofAlu_ora (.reg .l)
  | .oraM => ofAlu_ora .mem
  | .oraA => ofAlu_ora (.reg .a)
  | .cmpB => ofAlu_cmp (.reg .b)
  | .cmpC => ofAlu_cmp (.reg .c)
  | .cmpD => ofAlu_cmp (.reg .d)
  | .cmpE => ofAlu_cmp (.reg .e)
  | .cmpH => ofAlu_cmp (.reg .h)
  | .cmpL => ofAlu_cmp (.reg .l)
  | .cmpM => ofAlu_cmp .mem
  | .cmpA => ofAlu_cmp (.reg .a)
  | .rnz => ofRcc .nz
  | .popB => ofPop .bc
  | .jnz a16 => ofJcc .nz a16
  | .jmp a16 => jmp a16
  | .cnz a16 => ofCcc .nz a16
  | .pushB => ofPush .bc
  | .adi d8 => ofAlu_add (.imm d8)
  | .rst0 => ofRst 0
  | .rz => ofRcc .z
  | .ret => ret
  | .jz a16 => ofJcc .z a16
  | .undefinedCB => undefined 0xCB _ (by decide)
  | .cz a16 => ofCcc .z a16
  | .call a16 => call a16
  | .aci d8 => ofAlu_adc (.imm d8)
  | .rst1 => ofRst 1
  | .rnc => ofRcc .nc
  | .popD => ofPop .de
  | .jnc a16 => ofJcc .nc a16
  | .outPort port => outPort port
  | .cnc a16 => ofCcc .nc a16
  | .pushD => ofPush .de
  | .sui d8 => ofAlu_sub (.imm d8)
  | .rst2 => ofRst 2
  | .rc => ofRcc .c
  | .undefinedD9 => undefined 0xD9 _ (by decide)
  | .jc a16 => ofJcc .c a16
  | .inPort port => inPort port
  | .cc a16 => ofCcc .c a16
  | .undefinedDD => undefined 0xDD _ (by decide)
  | .sbi d8 => ofAlu_sbb (.imm d8)
  | .rst3 => ofRst 3
  | .rpo => ofRcc .po
  | .popH => ofPop .hl
  | .jpo a16 => ofJcc .po a16
  | .xthl => xthl
  | .cpo a16 => ofCcc .po a16
  | .pushH => ofPush .hl
  | .ani d8 => ofAlu_ana (.imm d8)
  | .rst4 => ofRst 4
  | .rpe => ofRcc .pe
  | .pchl => pchl
  | .jpe a16 => ofJcc .pe a16
  | .xchg => xchg
  | .cpe a16 => ofCcc .pe a16
  | .undefinedED => undefined 0xED _ (by decide)
  | .xri d8 => ofAlu_xra (.imm d8)
  | .rst5 => ofRst 5
  | .rp => ofRcc .p
  | .popPsw => popPsw
  | .jp a16 => ofJcc .p a16
  | .di => di
  | .cp a16 => ofCcc .p a16
  | .pushPsw => pushPsw
  | .ori d8 => ofAlu_ora (.imm d8)
  | .rst6 => ofRst 6
  | .rm => ofRcc .m
  | .sphl => sphl
  | .jm a16 => ofJcc .m a16
  | .ei => ei
  | .cm a16 => ofCcc .m a16
  | .undefinedFD => undefined 0xFD _ (by decide)
  | .cpi d8 => ofAlu_cmp (.imm d8)
  | .rst7 => ofRst 7

namespace Machine

/-- To prove a property of every restart number, prove it of the eight. -/
theorem restart_cases {P : BitVec 3 → Prop} (h0 : P 0) (h1 : P 1) (h2 : P 2) (h3 : P 3) (h4 : P 4) (h5 : P 5) (h6 : P 6)
    (h7 : P 7) (n : BitVec 3) : P n := by
  obtain ⟨⟨k, hk⟩⟩ := n
  match k, hk with
  | 0, _ => exact h0
  | 1, _ => exact h1
  | 2, _ => exact h2
  | 3, _ => exact h3
  | 4, _ => exact h4
  | 5, _ => exact h5
  | 6, _ => exact h6
  | 7, _ => exact h7

/-! ## exec, family by family -/

theorem exec_ofMov (dst : Reg) (src : Reg) (s : State) :
    exec (Instr.ofMov dst src) s = .next (loadReg dst (readReg src s) 1 s) := by
  cases dst <;> cases src <;> rfl

theorem exec_ofMovFromMem (dst : Reg) (s : State) :
    exec (Instr.ofMovFromMem dst) s = .next (loadReg dst (readAtHl s) 1 s) := by
  cases dst <;> rfl

theorem exec_ofMovToMem (src : Reg) (s : State) :
    exec (Instr.ofMovToMem src) s = .next (storeAtHl (readReg src s) 1 s) := by
  cases src <;> rfl

theorem exec_ofMvi (dst : Reg) (d8 : Byte) (s : State) :
    exec (Instr.ofMvi dst d8) s = .next (loadReg dst d8 2 s) := by
  cases dst <;> rfl

theorem exec_ofLxi (p : Pair16) (d16 : Word) (s : State) :
    exec (Instr.ofLxi p d16) s = .next (advance 3 (writePair16 p d16 s)) := by
  cases p <;> rfl

theorem exec_ofInr (r : Reg) (s : State) :
    exec (Instr.ofInr r) s = .next (incrementReg r s) := by
  cases r <;> rfl

theorem exec_ofDcr (r : Reg) (s : State) :
    exec (Instr.ofDcr r) s = .next (decrementReg r s) := by
  cases r <;> rfl

theorem exec_ofInx (p : Pair16) (s : State) :
    exec (Instr.ofInx p) s = .next (incrementPair p s) := by
  cases p <;> rfl

theorem exec_ofDcx (p : Pair16) (s : State) :
    exec (Instr.ofDcx p) s = .next (decrementPair p s) := by
  cases p <;> rfl

theorem exec_ofDad (p : Pair16) (s : State) :
    exec (Instr.ofDad p) s = .next (doubleAdd p s) := by
  cases p <;> rfl

theorem exec_ofAlu_add (v : Src) (s : State) :
    exec (Instr.ofAlu .add v) s = .next (aluAdd v s) := by
  cases v with
  | reg r => cases r <;> rfl
  | mem => rfl
  | imm d8 => rfl

theorem exec_ofAlu_adc (v : Src) (s : State) :
    exec (Instr.ofAlu .adc v) s = .next (aluAddCarry v s) := by
  cases v with
  | reg r => cases r <;> rfl
  | mem => rfl
  | imm d8 => rfl

theorem exec_ofAlu_sub (v : Src) (s : State) :
    exec (Instr.ofAlu .sub v) s = .next (aluSub v s) := by
  cases v with
  | reg r => cases r <;> rfl
  | mem => rfl
  | imm d8 => rfl

theorem exec_ofAlu_sbb (v : Src) (s : State) :
    exec (Instr.ofAlu .sbb v) s = .next (aluSubBorrow v s) := by
  cases v with
  | reg r => cases r <;> rfl
  | mem => rfl
  | imm d8 => rfl

theorem exec_ofAlu_ana (v : Src) (s : State) :
    exec (Instr.ofAlu .ana v) s = .next (aluAnd v s) := by
  cases v with
  | reg r => cases r <;> rfl
  | mem => rfl
  | imm d8 => rfl

theorem exec_ofAlu_xra (v : Src) (s : State) :
    exec (Instr.ofAlu .xra v) s = .next (aluXor v s) := by
  cases v with
  | reg r => cases r <;> rfl
  | mem => rfl
  | imm d8 => rfl

theorem exec_ofAlu_ora (v : Src) (s : State) :
    exec (Instr.ofAlu .ora v) s = .next (aluOr v s) := by
  cases v with
  | reg r => cases r <;> rfl
  | mem => rfl
  | imm d8 => rfl

theorem exec_ofAlu_cmp (v : Src) (s : State) :
    exec (Instr.ofAlu .cmp v) s = .next (aluCompare v s) := by
  cases v with
  | reg r => cases r <;> rfl
  | mem => rfl
  | imm d8 => rfl

theorem exec_ofJcc (cond : Cond) (a16 : Word) (s : State) :
    exec (Instr.ofJcc cond a16) s = .next (jumpIf cond a16 s) := by
  cases cond <;> rfl

theorem exec_ofCcc (cond : Cond) (a16 : Word) (s : State) :
    exec (Instr.ofCcc cond a16) s = .next (callIf cond a16 s) := by
  cases cond <;> rfl

theorem exec_ofRcc (cond : Cond) (s : State) :
    exec (Instr.ofRcc cond) s = .next (returnIf cond s) := by
  cases cond <;> rfl

theorem exec_ofRst (n : BitVec 3) (s : State) :
    exec (Instr.ofRst n) s = .next (callTo (restartTarget n) 1 s) := by
  revert n
  refine restart_cases ?_ ?_ ?_ ?_ ?_ ?_ ?_ ?_ <;> rfl

theorem exec_ofPush (p : RegPair) (s : State) :
    exec (Instr.ofPush p) s = .next (advance 1 (push16 (readPair p s) s)) := by
  cases p <;> rfl

theorem exec_ofPop (p : RegPair) (s : State) :
    exec (Instr.ofPop p) s = .next (advance 1 (writePair p (popValue s) (dropPopped s))) := by
  cases p <;> rfl

/-- Each row UNDEFINED takes the exception with its own opcode. -/
theorem exec_undefined {op : Byte} {i : Instr} (h : (op, i) ∈ Instr.undefinedRows) (s : State) :
    exec i s = .next (raiseUnimplemented op s) := by
  simp only [Instr.undefinedRows, List.mem_cons, Prod.mk.injEq, List.not_mem_nil, or_false] at h
  rcases h with h | h | h | h | h | h | h | h | h | h | h | h <;> obtain ⟨rfl, rfl⟩ := h <;> rfl

/-! ## The tables, family by family -/

@[simp] theorem writtenRegs_ofMov (dst : Reg) (src : Reg) : writtenRegs (Instr.ofMov dst src) = [dst] := by
  cases dst <;> cases src <;> rfl

@[simp] theorem writtenFlags_ofMov (dst : Reg) (src : Reg) : writtenFlags (Instr.ofMov dst src) = [] := by
  cases dst <;> cases src <;> rfl

@[simp] theorem storedBytes_ofMov (dst : Reg) (src : Reg) (s : State) :
    storedBytes (Instr.ofMov dst src) s = [] := by
  cases dst <;> cases src <;> rfl

@[simp] theorem mayWriteSp_ofMov (dst : Reg) (src : Reg) : mayWriteSp (Instr.ofMov dst src) = false := by
  cases dst <;> cases src <;> rfl

@[simp] theorem mayLeaveSequence_ofMov (dst : Reg) (src : Reg) : mayLeaveSequence (Instr.ofMov dst src) = false := by
  cases dst <;> cases src <;> rfl

@[simp] theorem writtenRegs_ofMovFromMem (dst : Reg) : writtenRegs (Instr.ofMovFromMem dst) = [dst] := by
  cases dst <;> rfl

@[simp] theorem writtenFlags_ofMovFromMem (dst : Reg) : writtenFlags (Instr.ofMovFromMem dst) = [] := by
  cases dst <;> rfl

@[simp] theorem storedBytes_ofMovFromMem (dst : Reg) (s : State) :
    storedBytes (Instr.ofMovFromMem dst) s = [] := by
  cases dst <;> rfl

@[simp] theorem mayWriteSp_ofMovFromMem (dst : Reg) : mayWriteSp (Instr.ofMovFromMem dst) = false := by
  cases dst <;> rfl

@[simp] theorem mayLeaveSequence_ofMovFromMem (dst : Reg) : mayLeaveSequence (Instr.ofMovFromMem dst) = false := by
  cases dst <;> rfl

@[simp] theorem writtenRegs_ofMovToMem (src : Reg) : writtenRegs (Instr.ofMovToMem src) = [] := by
  cases src <;> rfl

@[simp] theorem writtenFlags_ofMovToMem (src : Reg) : writtenFlags (Instr.ofMovToMem src) = [] := by
  cases src <;> rfl

@[simp] theorem storedBytes_ofMovToMem (src : Reg) (s : State) :
    storedBytes (Instr.ofMovToMem src) s = [readPair .hl s] := by
  cases src <;> rfl

@[simp] theorem mayWriteSp_ofMovToMem (src : Reg) : mayWriteSp (Instr.ofMovToMem src) = false := by
  cases src <;> rfl

@[simp] theorem mayLeaveSequence_ofMovToMem (src : Reg) : mayLeaveSequence (Instr.ofMovToMem src) = false := by
  cases src <;> rfl

@[simp] theorem writtenRegs_ofMvi (dst : Reg) (d8 : Byte) : writtenRegs (Instr.ofMvi dst d8) = [dst] := by
  cases dst <;> rfl

@[simp] theorem writtenFlags_ofMvi (dst : Reg) (d8 : Byte) : writtenFlags (Instr.ofMvi dst d8) = [] := by
  cases dst <;> rfl

@[simp] theorem storedBytes_ofMvi (dst : Reg) (d8 : Byte) (s : State) :
    storedBytes (Instr.ofMvi dst d8) s = [] := by
  cases dst <;> rfl

@[simp] theorem mayWriteSp_ofMvi (dst : Reg) (d8 : Byte) : mayWriteSp (Instr.ofMvi dst d8) = false := by
  cases dst <;> rfl

@[simp] theorem mayLeaveSequence_ofMvi (dst : Reg) (d8 : Byte) : mayLeaveSequence (Instr.ofMvi dst d8) = false := by
  cases dst <;> rfl

@[simp] theorem writtenFlags_ofLxi (p : Pair16) (d16 : Word) : writtenFlags (Instr.ofLxi p d16) = [] := by
  cases p <;> rfl

@[simp] theorem storedBytes_ofLxi (p : Pair16) (d16 : Word) (s : State) :
    storedBytes (Instr.ofLxi p d16) s = [] := by
  cases p <;> rfl

@[simp] theorem mayLeaveSequence_ofLxi (p : Pair16) (d16 : Word) : mayLeaveSequence (Instr.ofLxi p d16) = false := by
  cases p <;> rfl

@[simp] theorem writtenRegs_ofInr (r : Reg) : writtenRegs (Instr.ofInr r) = [r] := by
  cases r <;> rfl

@[simp] theorem writtenFlags_ofInr (r : Reg) : writtenFlags (Instr.ofInr r) = [.z, .s, .p, .ac] := by
  cases r <;> rfl

@[simp] theorem storedBytes_ofInr (r : Reg) (s : State) :
    storedBytes (Instr.ofInr r) s = [] := by
  cases r <;> rfl

@[simp] theorem mayWriteSp_ofInr (r : Reg) : mayWriteSp (Instr.ofInr r) = false := by
  cases r <;> rfl

@[simp] theorem mayLeaveSequence_ofInr (r : Reg) : mayLeaveSequence (Instr.ofInr r) = false := by
  cases r <;> rfl

@[simp] theorem writtenRegs_ofDcr (r : Reg) : writtenRegs (Instr.ofDcr r) = [r] := by
  cases r <;> rfl

@[simp] theorem writtenFlags_ofDcr (r : Reg) : writtenFlags (Instr.ofDcr r) = [.z, .s, .p, .ac] := by
  cases r <;> rfl

@[simp] theorem storedBytes_ofDcr (r : Reg) (s : State) :
    storedBytes (Instr.ofDcr r) s = [] := by
  cases r <;> rfl

@[simp] theorem mayWriteSp_ofDcr (r : Reg) : mayWriteSp (Instr.ofDcr r) = false := by
  cases r <;> rfl

@[simp] theorem mayLeaveSequence_ofDcr (r : Reg) : mayLeaveSequence (Instr.ofDcr r) = false := by
  cases r <;> rfl

@[simp] theorem writtenFlags_ofInx (p : Pair16) : writtenFlags (Instr.ofInx p) = [] := by
  cases p <;> rfl

@[simp] theorem storedBytes_ofInx (p : Pair16) (s : State) :
    storedBytes (Instr.ofInx p) s = [] := by
  cases p <;> rfl

@[simp] theorem mayLeaveSequence_ofInx (p : Pair16) : mayLeaveSequence (Instr.ofInx p) = false := by
  cases p <;> rfl

@[simp] theorem writtenFlags_ofDcx (p : Pair16) : writtenFlags (Instr.ofDcx p) = [] := by
  cases p <;> rfl

@[simp] theorem storedBytes_ofDcx (p : Pair16) (s : State) :
    storedBytes (Instr.ofDcx p) s = [] := by
  cases p <;> rfl

@[simp] theorem mayLeaveSequence_ofDcx (p : Pair16) : mayLeaveSequence (Instr.ofDcx p) = false := by
  cases p <;> rfl

@[simp] theorem writtenRegs_ofDad (p : Pair16) : writtenRegs (Instr.ofDad p) = [.h, .l] := by
  cases p <;> rfl

@[simp] theorem writtenFlags_ofDad (p : Pair16) : writtenFlags (Instr.ofDad p) = [.cy] := by
  cases p <;> rfl

@[simp] theorem storedBytes_ofDad (p : Pair16) (s : State) :
    storedBytes (Instr.ofDad p) s = [] := by
  cases p <;> rfl

@[simp] theorem mayWriteSp_ofDad (p : Pair16) : mayWriteSp (Instr.ofDad p) = false := by
  cases p <;> rfl

@[simp] theorem mayLeaveSequence_ofDad (p : Pair16) : mayLeaveSequence (Instr.ofDad p) = false := by
  cases p <;> rfl

@[simp] theorem writtenRegs_ofAlu_add (v : Src) : writtenRegs (Instr.ofAlu .add v) = [.a] := by
  cases v with
  | reg r => cases r <;> rfl
  | mem => rfl
  | imm d8 => rfl

@[simp] theorem writtenFlags_ofAlu_add (v : Src) : writtenFlags (Instr.ofAlu .add v) = [.z, .s, .p, .cy, .ac] := by
  cases v with
  | reg r => cases r <;> rfl
  | mem => rfl
  | imm d8 => rfl

@[simp] theorem storedBytes_ofAlu_add (v : Src) (s : State) :
    storedBytes (Instr.ofAlu .add v) s = [] := by
  cases v with
  | reg r => cases r <;> rfl
  | mem => rfl
  | imm d8 => rfl

@[simp] theorem mayWriteSp_ofAlu_add (v : Src) : mayWriteSp (Instr.ofAlu .add v) = false := by
  cases v with
  | reg r => cases r <;> rfl
  | mem => rfl
  | imm d8 => rfl

@[simp] theorem mayLeaveSequence_ofAlu_add (v : Src) : mayLeaveSequence (Instr.ofAlu .add v) = false := by
  cases v with
  | reg r => cases r <;> rfl
  | mem => rfl
  | imm d8 => rfl

@[simp] theorem writtenRegs_ofAlu_adc (v : Src) : writtenRegs (Instr.ofAlu .adc v) = [.a] := by
  cases v with
  | reg r => cases r <;> rfl
  | mem => rfl
  | imm d8 => rfl

@[simp] theorem writtenFlags_ofAlu_adc (v : Src) : writtenFlags (Instr.ofAlu .adc v) = [.z, .s, .p, .cy, .ac] := by
  cases v with
  | reg r => cases r <;> rfl
  | mem => rfl
  | imm d8 => rfl

@[simp] theorem storedBytes_ofAlu_adc (v : Src) (s : State) :
    storedBytes (Instr.ofAlu .adc v) s = [] := by
  cases v with
  | reg r => cases r <;> rfl
  | mem => rfl
  | imm d8 => rfl

@[simp] theorem mayWriteSp_ofAlu_adc (v : Src) : mayWriteSp (Instr.ofAlu .adc v) = false := by
  cases v with
  | reg r => cases r <;> rfl
  | mem => rfl
  | imm d8 => rfl

@[simp] theorem mayLeaveSequence_ofAlu_adc (v : Src) : mayLeaveSequence (Instr.ofAlu .adc v) = false := by
  cases v with
  | reg r => cases r <;> rfl
  | mem => rfl
  | imm d8 => rfl

@[simp] theorem writtenRegs_ofAlu_sub (v : Src) : writtenRegs (Instr.ofAlu .sub v) = [.a] := by
  cases v with
  | reg r => cases r <;> rfl
  | mem => rfl
  | imm d8 => rfl

@[simp] theorem writtenFlags_ofAlu_sub (v : Src) : writtenFlags (Instr.ofAlu .sub v) = [.z, .s, .p, .cy, .ac] := by
  cases v with
  | reg r => cases r <;> rfl
  | mem => rfl
  | imm d8 => rfl

@[simp] theorem storedBytes_ofAlu_sub (v : Src) (s : State) :
    storedBytes (Instr.ofAlu .sub v) s = [] := by
  cases v with
  | reg r => cases r <;> rfl
  | mem => rfl
  | imm d8 => rfl

@[simp] theorem mayWriteSp_ofAlu_sub (v : Src) : mayWriteSp (Instr.ofAlu .sub v) = false := by
  cases v with
  | reg r => cases r <;> rfl
  | mem => rfl
  | imm d8 => rfl

@[simp] theorem mayLeaveSequence_ofAlu_sub (v : Src) : mayLeaveSequence (Instr.ofAlu .sub v) = false := by
  cases v with
  | reg r => cases r <;> rfl
  | mem => rfl
  | imm d8 => rfl

@[simp] theorem writtenRegs_ofAlu_sbb (v : Src) : writtenRegs (Instr.ofAlu .sbb v) = [.a] := by
  cases v with
  | reg r => cases r <;> rfl
  | mem => rfl
  | imm d8 => rfl

@[simp] theorem writtenFlags_ofAlu_sbb (v : Src) : writtenFlags (Instr.ofAlu .sbb v) = [.z, .s, .p, .cy, .ac] := by
  cases v with
  | reg r => cases r <;> rfl
  | mem => rfl
  | imm d8 => rfl

@[simp] theorem storedBytes_ofAlu_sbb (v : Src) (s : State) :
    storedBytes (Instr.ofAlu .sbb v) s = [] := by
  cases v with
  | reg r => cases r <;> rfl
  | mem => rfl
  | imm d8 => rfl

@[simp] theorem mayWriteSp_ofAlu_sbb (v : Src) : mayWriteSp (Instr.ofAlu .sbb v) = false := by
  cases v with
  | reg r => cases r <;> rfl
  | mem => rfl
  | imm d8 => rfl

@[simp] theorem mayLeaveSequence_ofAlu_sbb (v : Src) : mayLeaveSequence (Instr.ofAlu .sbb v) = false := by
  cases v with
  | reg r => cases r <;> rfl
  | mem => rfl
  | imm d8 => rfl

@[simp] theorem writtenRegs_ofAlu_ana (v : Src) : writtenRegs (Instr.ofAlu .ana v) = [.a] := by
  cases v with
  | reg r => cases r <;> rfl
  | mem => rfl
  | imm d8 => rfl

@[simp] theorem writtenFlags_ofAlu_ana (v : Src) : writtenFlags (Instr.ofAlu .ana v) = [.z, .s, .p, .cy, .ac] := by
  cases v with
  | reg r => cases r <;> rfl
  | mem => rfl
  | imm d8 => rfl

@[simp] theorem storedBytes_ofAlu_ana (v : Src) (s : State) :
    storedBytes (Instr.ofAlu .ana v) s = [] := by
  cases v with
  | reg r => cases r <;> rfl
  | mem => rfl
  | imm d8 => rfl

@[simp] theorem mayWriteSp_ofAlu_ana (v : Src) : mayWriteSp (Instr.ofAlu .ana v) = false := by
  cases v with
  | reg r => cases r <;> rfl
  | mem => rfl
  | imm d8 => rfl

@[simp] theorem mayLeaveSequence_ofAlu_ana (v : Src) : mayLeaveSequence (Instr.ofAlu .ana v) = false := by
  cases v with
  | reg r => cases r <;> rfl
  | mem => rfl
  | imm d8 => rfl

@[simp] theorem writtenRegs_ofAlu_xra (v : Src) : writtenRegs (Instr.ofAlu .xra v) = [.a] := by
  cases v with
  | reg r => cases r <;> rfl
  | mem => rfl
  | imm d8 => rfl

@[simp] theorem writtenFlags_ofAlu_xra (v : Src) : writtenFlags (Instr.ofAlu .xra v) = [.z, .s, .p, .cy, .ac] := by
  cases v with
  | reg r => cases r <;> rfl
  | mem => rfl
  | imm d8 => rfl

@[simp] theorem storedBytes_ofAlu_xra (v : Src) (s : State) :
    storedBytes (Instr.ofAlu .xra v) s = [] := by
  cases v with
  | reg r => cases r <;> rfl
  | mem => rfl
  | imm d8 => rfl

@[simp] theorem mayWriteSp_ofAlu_xra (v : Src) : mayWriteSp (Instr.ofAlu .xra v) = false := by
  cases v with
  | reg r => cases r <;> rfl
  | mem => rfl
  | imm d8 => rfl

@[simp] theorem mayLeaveSequence_ofAlu_xra (v : Src) : mayLeaveSequence (Instr.ofAlu .xra v) = false := by
  cases v with
  | reg r => cases r <;> rfl
  | mem => rfl
  | imm d8 => rfl

@[simp] theorem writtenRegs_ofAlu_ora (v : Src) : writtenRegs (Instr.ofAlu .ora v) = [.a] := by
  cases v with
  | reg r => cases r <;> rfl
  | mem => rfl
  | imm d8 => rfl

@[simp] theorem writtenFlags_ofAlu_ora (v : Src) : writtenFlags (Instr.ofAlu .ora v) = [.z, .s, .p, .cy, .ac] := by
  cases v with
  | reg r => cases r <;> rfl
  | mem => rfl
  | imm d8 => rfl

@[simp] theorem storedBytes_ofAlu_ora (v : Src) (s : State) :
    storedBytes (Instr.ofAlu .ora v) s = [] := by
  cases v with
  | reg r => cases r <;> rfl
  | mem => rfl
  | imm d8 => rfl

@[simp] theorem mayWriteSp_ofAlu_ora (v : Src) : mayWriteSp (Instr.ofAlu .ora v) = false := by
  cases v with
  | reg r => cases r <;> rfl
  | mem => rfl
  | imm d8 => rfl

@[simp] theorem mayLeaveSequence_ofAlu_ora (v : Src) : mayLeaveSequence (Instr.ofAlu .ora v) = false := by
  cases v with
  | reg r => cases r <;> rfl
  | mem => rfl
  | imm d8 => rfl

@[simp] theorem writtenRegs_ofAlu_cmp (v : Src) : writtenRegs (Instr.ofAlu .cmp v) = [] := by
  cases v with
  | reg r => cases r <;> rfl
  | mem => rfl
  | imm d8 => rfl

@[simp] theorem writtenFlags_ofAlu_cmp (v : Src) : writtenFlags (Instr.ofAlu .cmp v) = [.z, .s, .p, .cy, .ac] := by
  cases v with
  | reg r => cases r <;> rfl
  | mem => rfl
  | imm d8 => rfl

@[simp] theorem storedBytes_ofAlu_cmp (v : Src) (s : State) :
    storedBytes (Instr.ofAlu .cmp v) s = [] := by
  cases v with
  | reg r => cases r <;> rfl
  | mem => rfl
  | imm d8 => rfl

@[simp] theorem mayWriteSp_ofAlu_cmp (v : Src) : mayWriteSp (Instr.ofAlu .cmp v) = false := by
  cases v with
  | reg r => cases r <;> rfl
  | mem => rfl
  | imm d8 => rfl

@[simp] theorem mayLeaveSequence_ofAlu_cmp (v : Src) : mayLeaveSequence (Instr.ofAlu .cmp v) = false := by
  cases v with
  | reg r => cases r <;> rfl
  | mem => rfl
  | imm d8 => rfl

@[simp] theorem writtenRegs_ofJcc (cond : Cond) (a16 : Word) : writtenRegs (Instr.ofJcc cond a16) = [] := by
  cases cond <;> rfl

@[simp] theorem writtenFlags_ofJcc (cond : Cond) (a16 : Word) : writtenFlags (Instr.ofJcc cond a16) = [] := by
  cases cond <;> rfl

@[simp] theorem storedBytes_ofJcc (cond : Cond) (a16 : Word) (s : State) :
    storedBytes (Instr.ofJcc cond a16) s = [] := by
  cases cond <;> rfl

@[simp] theorem mayWriteSp_ofJcc (cond : Cond) (a16 : Word) : mayWriteSp (Instr.ofJcc cond a16) = false := by
  cases cond <;> rfl

@[simp] theorem mayLeaveSequence_ofJcc (cond : Cond) (a16 : Word) : mayLeaveSequence (Instr.ofJcc cond a16) = true := by
  cases cond <;> rfl

@[simp] theorem writtenRegs_ofCcc (cond : Cond) (a16 : Word) : writtenRegs (Instr.ofCcc cond a16) = [] := by
  cases cond <;> rfl

@[simp] theorem writtenFlags_ofCcc (cond : Cond) (a16 : Word) : writtenFlags (Instr.ofCcc cond a16) = [] := by
  cases cond <;> rfl

@[simp] theorem storedBytes_ofCcc (cond : Cond) (a16 : Word) (s : State) :
    storedBytes (Instr.ofCcc cond a16) s = if condHolds cond s.flags then [s.sp - 1, s.sp - 2] else [] := by
  cases cond <;> rfl

@[simp] theorem mayWriteSp_ofCcc (cond : Cond) (a16 : Word) : mayWriteSp (Instr.ofCcc cond a16) = true := by
  cases cond <;> rfl

@[simp] theorem mayLeaveSequence_ofCcc (cond : Cond) (a16 : Word) : mayLeaveSequence (Instr.ofCcc cond a16) = true := by
  cases cond <;> rfl

@[simp] theorem writtenRegs_ofRcc (cond : Cond) : writtenRegs (Instr.ofRcc cond) = [] := by
  cases cond <;> rfl

@[simp] theorem writtenFlags_ofRcc (cond : Cond) : writtenFlags (Instr.ofRcc cond) = [] := by
  cases cond <;> rfl

@[simp] theorem storedBytes_ofRcc (cond : Cond) (s : State) :
    storedBytes (Instr.ofRcc cond) s = [] := by
  cases cond <;> rfl

@[simp] theorem mayWriteSp_ofRcc (cond : Cond) : mayWriteSp (Instr.ofRcc cond) = true := by
  cases cond <;> rfl

@[simp] theorem mayLeaveSequence_ofRcc (cond : Cond) : mayLeaveSequence (Instr.ofRcc cond) = true := by
  cases cond <;> rfl

@[simp] theorem writtenRegs_ofRst (n : BitVec 3) : writtenRegs (Instr.ofRst n) = [] := by
  revert n
  refine restart_cases ?_ ?_ ?_ ?_ ?_ ?_ ?_ ?_ <;> rfl

@[simp] theorem writtenFlags_ofRst (n : BitVec 3) : writtenFlags (Instr.ofRst n) = [] := by
  revert n
  refine restart_cases ?_ ?_ ?_ ?_ ?_ ?_ ?_ ?_ <;> rfl

@[simp] theorem storedBytes_ofRst (n : BitVec 3) (s : State) :
    storedBytes (Instr.ofRst n) s = [s.sp - 1, s.sp - 2] := by
  revert n
  refine restart_cases ?_ ?_ ?_ ?_ ?_ ?_ ?_ ?_ <;> rfl

@[simp] theorem mayWriteSp_ofRst (n : BitVec 3) : mayWriteSp (Instr.ofRst n) = true := by
  revert n
  refine restart_cases ?_ ?_ ?_ ?_ ?_ ?_ ?_ ?_ <;> rfl

@[simp] theorem mayLeaveSequence_ofRst (n : BitVec 3) : mayLeaveSequence (Instr.ofRst n) = true := by
  revert n
  refine restart_cases ?_ ?_ ?_ ?_ ?_ ?_ ?_ ?_ <;> rfl

@[simp] theorem writtenRegs_ofPush (p : RegPair) : writtenRegs (Instr.ofPush p) = [] := by
  cases p <;> rfl

@[simp] theorem writtenFlags_ofPush (p : RegPair) : writtenFlags (Instr.ofPush p) = [] := by
  cases p <;> rfl

@[simp] theorem storedBytes_ofPush (p : RegPair) (s : State) :
    storedBytes (Instr.ofPush p) s = [s.sp - 1, s.sp - 2] := by
  cases p <;> rfl

@[simp] theorem mayWriteSp_ofPush (p : RegPair) : mayWriteSp (Instr.ofPush p) = true := by
  cases p <;> rfl

@[simp] theorem mayLeaveSequence_ofPush (p : RegPair) : mayLeaveSequence (Instr.ofPush p) = false := by
  cases p <;> rfl

@[simp] theorem writtenRegs_ofPop (p : RegPair) : writtenRegs (Instr.ofPop p) = [highReg p, lowReg p] := by
  cases p <;> rfl

@[simp] theorem writtenFlags_ofPop (p : RegPair) : writtenFlags (Instr.ofPop p) = [] := by
  cases p <;> rfl

@[simp] theorem storedBytes_ofPop (p : RegPair) (s : State) :
    storedBytes (Instr.ofPop p) s = [] := by
  cases p <;> rfl

@[simp] theorem mayWriteSp_ofPop (p : RegPair) : mayWriteSp (Instr.ofPop p) = true := by
  cases p <;> rfl

@[simp] theorem mayLeaveSequence_ofPop (p : RegPair) : mayLeaveSequence (Instr.ofPop p) = false := by
  cases p <;> rfl

/-- What the tables say of the rows UNDEFINED: nothing is written, and `PC` stays. -/
theorem undefined_tables {op : Byte} {i : Instr} (h : (op, i) ∈ Instr.undefinedRows) :
    writtenRegs i = [] ∧ writtenFlags i = [] ∧ (∀ s, storedBytes i s = []) ∧ mayWriteSp i = false ∧
      mayLeaveSequence i = true ∧ opcodeOf i = op ∧ ¬ WellFormed i := by
  simp only [Instr.undefinedRows, List.mem_cons, Prod.mk.injEq, List.not_mem_nil, or_false] at h
  rcases h with h | h | h | h | h | h | h | h | h | h | h | h <;> obtain ⟨rfl, rfl⟩ := h <;>
    exact ⟨rfl, rfl, fun _ => rfl, rfl, rfl, rfl, by decide⟩

end Machine

end Sys2Proof
end

