-- ==== Sys2Proof/Laws/Memory.lean ====
section
/-! SUPPORT. What memory operations do: reading after writing, and that each keeps the canonical form. -/

namespace Sys2Proof.Machine

theorem Memory.readAt_eraseAt (a b : Nat) (m : Memory) :
    Memory.readAt b (Memory.eraseAt a m) = if b = a then Memory.unlisted else Memory.readAt b m := by
  induction m with
  | nil => simp [Memory.readAt, Memory.eraseAt]
  | cons cell rest ih =>
    obtain ⟨k, w⟩ := cell
    simp only [Memory.eraseAt, Memory.readAt]
    split_ifs <;> simp_all [Memory.readAt]

theorem Memory.readAt_insertAt_of_ne {a b : Nat} (h : b ≠ a) (v : Byte) (m : Memory) :
    Memory.readAt b (Memory.insertAt a v m) = Memory.readAt b m := by
  induction m with
  | nil => simp [Memory.insertAt, Memory.readAt, Ne.symm h]
  | cons cell rest ih =>
    obtain ⟨k, w⟩ := cell
    simp only [Memory.insertAt]
    split_ifs <;> simp_all [Memory.readAt, Ne.symm h]

theorem Memory.readAt_insertAt_eraseAt (a : Nat) (v : Byte) (m : Memory) :
    Memory.readAt a (Memory.insertAt a v (Memory.eraseAt a m)) = v := by
  induction m with
  | nil => simp [Memory.insertAt, Memory.eraseAt, Memory.readAt]
  | cons cell rest ih =>
    obtain ⟨k, w⟩ := cell
    by_cases hk : k = a
    · simpa [Memory.eraseAt, hk] using ih
    · simp only [Memory.eraseAt, hk, if_false, Memory.insertAt]
      split_ifs <;> simp [Memory.readAt, hk, ih]

/-- A read after a write, at the level of plain addresses. -/
theorem Memory.readAt_writeAt (a b : Nat) (v : Byte) (m : Memory) :
    Memory.readAt b (Memory.writeAt a v m) = if b = a then v else Memory.readAt b m := by
  unfold Memory.writeAt
  by_cases hv : v = Memory.unlisted
  · simp [hv, Memory.readAt_eraseAt]
  · by_cases hb : b = a
    · simp [hv, hb, Memory.readAt_insertAt_eraseAt]
    · simp [hv, hb, Memory.readAt_insertAt_of_ne hb, Memory.readAt_eraseAt]

theorem Memory.wfFrom_mono {lo lo' : Nat} (h : lo' ≤ lo) {m : Memory} (hm : Memory.wfFrom lo m = true) :
    Memory.wfFrom lo' m = true := by
  cases m with
  | nil => rfl
  | cons cell rest =>
    simp only [Memory.wfFrom, Bool.and_eq_true, decide_eq_true_eq] at hm ⊢
    exact ⟨⟨⟨h.trans hm.1.1.1, hm.1.1.2⟩, hm.1.2⟩, hm.2⟩

theorem Memory.wfFrom_eraseAt (a : Nat) {lo : Nat} {m : Memory} (hm : Memory.wfFrom lo m = true) :
    Memory.wfFrom lo (Memory.eraseAt a m) = true := by
  induction m generalizing lo with
  | nil => rfl
  | cons cell rest ih =>
    obtain ⟨k, w⟩ := cell
    simp only [Memory.wfFrom, Bool.and_eq_true, decide_eq_true_eq] at hm
    simp only [Memory.eraseAt]
    split_ifs
    · exact Memory.wfFrom_mono (by omega) (ih hm.2)
    · simp only [Memory.wfFrom, Bool.and_eq_true, decide_eq_true_eq]
      exact ⟨hm.1, ih hm.2⟩

theorem Memory.wfFrom_insertAt {a lo : Nat} {v : Byte} {m : Memory} (hlo : lo ≤ a) (ha : a < Config.memorySize)
    (hv : v ≠ Memory.unlisted) (hfree : ∀ cell ∈ m, cell.1 ≠ a) (hm : Memory.wfFrom lo m = true) :
    Memory.wfFrom lo (Memory.insertAt a v m) = true := by
  induction m generalizing lo with
  | nil => simp [Memory.insertAt, Memory.wfFrom, hlo, ha, hv]
  | cons cell rest ih =>
    obtain ⟨k, w⟩ := cell
    simp only [Memory.wfFrom, Bool.and_eq_true, decide_eq_true_eq] at hm
    have hk : k ≠ a := hfree (k, w) (by simp)
    simp only [Memory.insertAt]
    split_ifs with h
    · simp only [Memory.wfFrom, Bool.and_eq_true, decide_eq_true_eq]
      exact ⟨⟨⟨hlo, ha⟩, hv⟩, ⟨⟨h, hm.1.1.2⟩, hm.1.2⟩, hm.2⟩
    · simp only [Memory.wfFrom, Bool.and_eq_true, decide_eq_true_eq]
      exact ⟨hm.1, ih (by omega) (fun c hc => hfree c (by simp [hc])) hm.2⟩

theorem Memory.ne_of_mem_eraseAt {a : Nat} {m : Memory} {cell : Host.Cell} (h : cell ∈ Memory.eraseAt a m) :
    cell.1 ≠ a := by
  induction m with
  | nil => simp [Memory.eraseAt] at h
  | cons c rest ih =>
    obtain ⟨k, w⟩ := c
    simp only [Memory.eraseAt] at h
    split_ifs at h with hk
    · exact ih h
    · rcases List.mem_cons.mp h with rfl | h
      · exact hk
      · exact ih h

/-- Writing a byte inside the address space keeps the canonical form. -/
theorem Memory.wf_writeAt {a : Nat} (ha : a < Config.memorySize) (v : Byte) {m : Memory} (hm : Memory.wf m = true) :
    Memory.wf (Memory.writeAt a v m) = true := by
  unfold Memory.wf Memory.writeAt at *
  split_ifs with hv
  · exact Memory.wfFrom_eraseAt a hm
  · exact Memory.wfFrom_insertAt (Nat.zero_le a) ha hv (fun _ => Memory.ne_of_mem_eraseAt) (Memory.wfFrom_eraseAt a hm)

/-- `MemWrite` keeps the canonical form. -/
theorem Memory.wf_write (a : Word) (v : Byte) {m : Memory} (hm : Memory.wf m = true) :
    Memory.wf (Memory.write m a v) = true :=
  Memory.wf_writeAt (by simpa [Config.memorySize] using a.isLt) v hm

/-- Loading an image that fits keeps the canonical form. -/
theorem Memory.wf_load {bytes : List Byte} {a : Nat} (h : a + bytes.length ≤ Config.memorySize) {m : Memory}
    (hm : Memory.wf m = true) : Memory.wf (Memory.load a bytes m) = true := by
  induction bytes generalizing a m with
  | nil => exact hm
  | cons v vs ih =>
    simp only [List.length_cons] at h
    exact ih (by omega) (Memory.wf_writeAt (by omega) v hm)

end Sys2Proof.Machine
end

