-- ==== Sys2Proof/Laws/State.lean ====
section
/-! SUPPORT. One lemma per field and update of the state, so that no proof unfolds a record update. -/

namespace Sys2Proof.Machine

@[simp] theorem setSp_a (v : Word) (s : State) : (setSp v s).a = s.a := rfl
@[simp] theorem setSp_b (v : Word) (s : State) : (setSp v s).b = s.b := rfl
@[simp] theorem setSp_c (v : Word) (s : State) : (setSp v s).c = s.c := rfl
@[simp] theorem setSp_d (v : Word) (s : State) : (setSp v s).d = s.d := rfl
@[simp] theorem setSp_e (v : Word) (s : State) : (setSp v s).e = s.e := rfl
@[simp] theorem setSp_h (v : Word) (s : State) : (setSp v s).h = s.h := rfl
@[simp] theorem setSp_l (v : Word) (s : State) : (setSp v s).l = s.l := rfl
@[simp] theorem setSp_sp (v : Word) (s : State) : (setSp v s).sp = v := rfl
@[simp] theorem setSp_pc (v : Word) (s : State) : (setSp v s).pc = s.pc := rfl
@[simp] theorem setSp_flags (v : Word) (s : State) : (setSp v s).flags = s.flags := rfl
@[simp] theorem setSp_inte (v : Word) (s : State) : (setSp v s).inte = s.inte := rfl
@[simp] theorem setSp_status (v : Word) (s : State) : (setSp v s).status = s.status := rfl
@[simp] theorem setSp_mem (v : Word) (s : State) : (setSp v s).mem = s.mem := rfl
@[simp] theorem setSp_imageEnd (v : Word) (s : State) : (setSp v s).imageEnd = s.imageEnd := rfl
@[simp] theorem setSp_inDraws (v : Word) (s : State) : (setSp v s).inDraws = s.inDraws := rfl

@[simp] theorem setFlags_a (f : Flags) (s : State) : (setFlags f s).a = s.a := rfl
@[simp] theorem setFlags_b (f : Flags) (s : State) : (setFlags f s).b = s.b := rfl
@[simp] theorem setFlags_c (f : Flags) (s : State) : (setFlags f s).c = s.c := rfl
@[simp] theorem setFlags_d (f : Flags) (s : State) : (setFlags f s).d = s.d := rfl
@[simp] theorem setFlags_e (f : Flags) (s : State) : (setFlags f s).e = s.e := rfl
@[simp] theorem setFlags_h (f : Flags) (s : State) : (setFlags f s).h = s.h := rfl
@[simp] theorem setFlags_l (f : Flags) (s : State) : (setFlags f s).l = s.l := rfl
@[simp] theorem setFlags_sp (f : Flags) (s : State) : (setFlags f s).sp = s.sp := rfl
@[simp] theorem setFlags_pc (f : Flags) (s : State) : (setFlags f s).pc = s.pc := rfl
@[simp] theorem setFlags_flags (f : Flags) (s : State) : (setFlags f s).flags = f := rfl
@[simp] theorem setFlags_inte (f : Flags) (s : State) : (setFlags f s).inte = s.inte := rfl
@[simp] theorem setFlags_status (f : Flags) (s : State) : (setFlags f s).status = s.status := rfl
@[simp] theorem setFlags_mem (f : Flags) (s : State) : (setFlags f s).mem = s.mem := rfl
@[simp] theorem setFlags_imageEnd (f : Flags) (s : State) : (setFlags f s).imageEnd = s.imageEnd := rfl
@[simp] theorem setFlags_inDraws (f : Flags) (s : State) : (setFlags f s).inDraws = s.inDraws := rfl

@[simp] theorem setCarry_a (v : Bool) (s : State) : (setCarry v s).a = s.a := rfl
@[simp] theorem setCarry_b (v : Bool) (s : State) : (setCarry v s).b = s.b := rfl
@[simp] theorem setCarry_c (v : Bool) (s : State) : (setCarry v s).c = s.c := rfl
@[simp] theorem setCarry_d (v : Bool) (s : State) : (setCarry v s).d = s.d := rfl
@[simp] theorem setCarry_e (v : Bool) (s : State) : (setCarry v s).e = s.e := rfl
@[simp] theorem setCarry_h (v : Bool) (s : State) : (setCarry v s).h = s.h := rfl
@[simp] theorem setCarry_l (v : Bool) (s : State) : (setCarry v s).l = s.l := rfl
@[simp] theorem setCarry_sp (v : Bool) (s : State) : (setCarry v s).sp = s.sp := rfl
@[simp] theorem setCarry_pc (v : Bool) (s : State) : (setCarry v s).pc = s.pc := rfl
@[simp] theorem setCarry_flags (v : Bool) (s : State) : (setCarry v s).flags = setCy v s.flags := rfl
@[simp] theorem setCarry_inte (v : Bool) (s : State) : (setCarry v s).inte = s.inte := rfl
@[simp] theorem setCarry_status (v : Bool) (s : State) : (setCarry v s).status = s.status := rfl
@[simp] theorem setCarry_mem (v : Bool) (s : State) : (setCarry v s).mem = s.mem := rfl
@[simp] theorem setCarry_imageEnd (v : Bool) (s : State) : (setCarry v s).imageEnd = s.imageEnd := rfl
@[simp] theorem setCarry_inDraws (v : Bool) (s : State) : (setCarry v s).inDraws = s.inDraws := rfl

@[simp] theorem setInte_a (v : Bool) (s : State) : (setInte v s).a = s.a := rfl
@[simp] theorem setInte_b (v : Bool) (s : State) : (setInte v s).b = s.b := rfl
@[simp] theorem setInte_c (v : Bool) (s : State) : (setInte v s).c = s.c := rfl
@[simp] theorem setInte_d (v : Bool) (s : State) : (setInte v s).d = s.d := rfl
@[simp] theorem setInte_e (v : Bool) (s : State) : (setInte v s).e = s.e := rfl
@[simp] theorem setInte_h (v : Bool) (s : State) : (setInte v s).h = s.h := rfl
@[simp] theorem setInte_l (v : Bool) (s : State) : (setInte v s).l = s.l := rfl
@[simp] theorem setInte_sp (v : Bool) (s : State) : (setInte v s).sp = s.sp := rfl
@[simp] theorem setInte_pc (v : Bool) (s : State) : (setInte v s).pc = s.pc := rfl
@[simp] theorem setInte_flags (v : Bool) (s : State) : (setInte v s).flags = s.flags := rfl
@[simp] theorem setInte_inte (v : Bool) (s : State) : (setInte v s).inte = v := rfl
@[simp] theorem setInte_status (v : Bool) (s : State) : (setInte v s).status = s.status := rfl
@[simp] theorem setInte_mem (v : Bool) (s : State) : (setInte v s).mem = s.mem := rfl
@[simp] theorem setInte_imageEnd (v : Bool) (s : State) : (setInte v s).imageEnd = s.imageEnd := rfl
@[simp] theorem setInte_inDraws (v : Bool) (s : State) : (setInte v s).inDraws = s.inDraws := rfl

@[simp] theorem setStatus_a (v : Status) (s : State) : (setStatus v s).a = s.a := rfl
@[simp] theorem setStatus_b (v : Status) (s : State) : (setStatus v s).b = s.b := rfl
@[simp] theorem setStatus_c (v : Status) (s : State) : (setStatus v s).c = s.c := rfl
@[simp] theorem setStatus_d (v : Status) (s : State) : (setStatus v s).d = s.d := rfl
@[simp] theorem setStatus_e (v : Status) (s : State) : (setStatus v s).e = s.e := rfl
@[simp] theorem setStatus_h (v : Status) (s : State) : (setStatus v s).h = s.h := rfl
@[simp] theorem setStatus_l (v : Status) (s : State) : (setStatus v s).l = s.l := rfl
@[simp] theorem setStatus_sp (v : Status) (s : State) : (setStatus v s).sp = s.sp := rfl
@[simp] theorem setStatus_pc (v : Status) (s : State) : (setStatus v s).pc = s.pc := rfl
@[simp] theorem setStatus_flags (v : Status) (s : State) : (setStatus v s).flags = s.flags := rfl
@[simp] theorem setStatus_inte (v : Status) (s : State) : (setStatus v s).inte = s.inte := rfl
@[simp] theorem setStatus_status (v : Status) (s : State) : (setStatus v s).status = v := rfl
@[simp] theorem setStatus_mem (v : Status) (s : State) : (setStatus v s).mem = s.mem := rfl
@[simp] theorem setStatus_imageEnd (v : Status) (s : State) : (setStatus v s).imageEnd = s.imageEnd := rfl
@[simp] theorem setStatus_inDraws (v : Status) (s : State) : (setStatus v s).inDraws = s.inDraws := rfl

@[simp] theorem takeDraw_a (s : State) : (takeDraw s).a = s.a := rfl
@[simp] theorem takeDraw_b (s : State) : (takeDraw s).b = s.b := rfl
@[simp] theorem takeDraw_c (s : State) : (takeDraw s).c = s.c := rfl
@[simp] theorem takeDraw_d (s : State) : (takeDraw s).d = s.d := rfl
@[simp] theorem takeDraw_e (s : State) : (takeDraw s).e = s.e := rfl
@[simp] theorem takeDraw_h (s : State) : (takeDraw s).h = s.h := rfl
@[simp] theorem takeDraw_l (s : State) : (takeDraw s).l = s.l := rfl
@[simp] theorem takeDraw_sp (s : State) : (takeDraw s).sp = s.sp := rfl
@[simp] theorem takeDraw_pc (s : State) : (takeDraw s).pc = s.pc := rfl
@[simp] theorem takeDraw_flags (s : State) : (takeDraw s).flags = s.flags := rfl
@[simp] theorem takeDraw_inte (s : State) : (takeDraw s).inte = s.inte := rfl
@[simp] theorem takeDraw_status (s : State) : (takeDraw s).status = s.status := rfl
@[simp] theorem takeDraw_mem (s : State) : (takeDraw s).mem = s.mem := rfl
@[simp] theorem takeDraw_imageEnd (s : State) : (takeDraw s).imageEnd = s.imageEnd := rfl
@[simp] theorem takeDraw_inDraws (s : State) : (takeDraw s).inDraws = s.inDraws + 1 := rfl

@[simp] theorem writeMem_a (x : Word) (v : Byte) (s : State) : (writeMem x v s).a = s.a := rfl
@[simp] theorem writeMem_b (x : Word) (v : Byte) (s : State) : (writeMem x v s).b = s.b := rfl
@[simp] theorem writeMem_c (x : Word) (v : Byte) (s : State) : (writeMem x v s).c = s.c := rfl
@[simp] theorem writeMem_d (x : Word) (v : Byte) (s : State) : (writeMem x v s).d = s.d := rfl
@[simp] theorem writeMem_e (x : Word) (v : Byte) (s : State) : (writeMem x v s).e = s.e := rfl
@[simp] theorem writeMem_h (x : Word) (v : Byte) (s : State) : (writeMem x v s).h = s.h := rfl
@[simp] theorem writeMem_l (x : Word) (v : Byte) (s : State) : (writeMem x v s).l = s.l := rfl
@[simp] theorem writeMem_sp (x : Word) (v : Byte) (s : State) : (writeMem x v s).sp = s.sp := rfl
@[simp] theorem writeMem_pc (x : Word) (v : Byte) (s : State) : (writeMem x v s).pc = s.pc := rfl
@[simp] theorem writeMem_flags (x : Word) (v : Byte) (s : State) : (writeMem x v s).flags = s.flags := rfl
@[simp] theorem writeMem_inte (x : Word) (v : Byte) (s : State) : (writeMem x v s).inte = s.inte := rfl
@[simp] theorem writeMem_status (x : Word) (v : Byte) (s : State) : (writeMem x v s).status = s.status := rfl
@[simp] theorem writeMem_mem (x : Word) (v : Byte) (s : State) : (writeMem x v s).mem = Memory.write s.mem x v := rfl
@[simp] theorem writeMem_imageEnd (x : Word) (v : Byte) (s : State) : (writeMem x v s).imageEnd = s.imageEnd := rfl
@[simp] theorem writeMem_inDraws (x : Word) (v : Byte) (s : State) : (writeMem x v s).inDraws = s.inDraws := rfl

@[simp] theorem advance_a (width : Nat) (s : State) : (advance width s).a = s.a := rfl
@[simp] theorem advance_b (width : Nat) (s : State) : (advance width s).b = s.b := rfl
@[simp] theorem advance_c (width : Nat) (s : State) : (advance width s).c = s.c := rfl
@[simp] theorem advance_d (width : Nat) (s : State) : (advance width s).d = s.d := rfl
@[simp] theorem advance_e (width : Nat) (s : State) : (advance width s).e = s.e := rfl
@[simp] theorem advance_h (width : Nat) (s : State) : (advance width s).h = s.h := rfl
@[simp] theorem advance_l (width : Nat) (s : State) : (advance width s).l = s.l := rfl
@[simp] theorem advance_sp (width : Nat) (s : State) : (advance width s).sp = s.sp := rfl
@[simp] theorem advance_pc (width : Nat) (s : State) : (advance width s).pc = nextPc width s := rfl
@[simp] theorem advance_flags (width : Nat) (s : State) : (advance width s).flags = s.flags := rfl
@[simp] theorem advance_inte (width : Nat) (s : State) : (advance width s).inte = s.inte := rfl
@[simp] theorem advance_status (width : Nat) (s : State) : (advance width s).status = s.status := rfl
@[simp] theorem advance_mem (width : Nat) (s : State) : (advance width s).mem = s.mem := rfl
@[simp] theorem advance_imageEnd (width : Nat) (s : State) : (advance width s).imageEnd = s.imageEnd := rfl
@[simp] theorem advance_inDraws (width : Nat) (s : State) : (advance width s).inDraws = s.inDraws := rfl

@[simp] theorem jumpTo_a (target : Word) (s : State) : (jumpTo target s).a = s.a := rfl
@[simp] theorem jumpTo_b (target : Word) (s : State) : (jumpTo target s).b = s.b := rfl
@[simp] theorem jumpTo_c (target : Word) (s : State) : (jumpTo target s).c = s.c := rfl
@[simp] theorem jumpTo_d (target : Word) (s : State) : (jumpTo target s).d = s.d := rfl
@[simp] theorem jumpTo_e (target : Word) (s : State) : (jumpTo target s).e = s.e := rfl
@[simp] theorem jumpTo_h (target : Word) (s : State) : (jumpTo target s).h = s.h := rfl
@[simp] theorem jumpTo_l (target : Word) (s : State) : (jumpTo target s).l = s.l := rfl
@[simp] theorem jumpTo_sp (target : Word) (s : State) : (jumpTo target s).sp = s.sp := rfl
@[simp] theorem jumpTo_pc (target : Word) (s : State) : (jumpTo target s).pc = target := rfl
@[simp] theorem jumpTo_flags (target : Word) (s : State) : (jumpTo target s).flags = s.flags := rfl
@[simp] theorem jumpTo_inte (target : Word) (s : State) : (jumpTo target s).inte = s.inte := rfl
@[simp] theorem jumpTo_status (target : Word) (s : State) : (jumpTo target s).status = s.status := rfl
@[simp] theorem jumpTo_mem (target : Word) (s : State) : (jumpTo target s).mem = s.mem := rfl
@[simp] theorem jumpTo_imageEnd (target : Word) (s : State) : (jumpTo target s).imageEnd = s.imageEnd := rfl
@[simp] theorem jumpTo_inDraws (target : Word) (s : State) : (jumpTo target s).inDraws = s.inDraws := rfl

@[simp] theorem exchangeDeHl_a (s : State) : (exchangeDeHl s).a = s.a := rfl
@[simp] theorem exchangeDeHl_b (s : State) : (exchangeDeHl s).b = s.b := rfl
@[simp] theorem exchangeDeHl_c (s : State) : (exchangeDeHl s).c = s.c := rfl
@[simp] theorem exchangeDeHl_d (s : State) : (exchangeDeHl s).d = s.h := rfl
@[simp] theorem exchangeDeHl_e (s : State) : (exchangeDeHl s).e = s.l := rfl
@[simp] theorem exchangeDeHl_h (s : State) : (exchangeDeHl s).h = s.d := rfl
@[simp] theorem exchangeDeHl_l (s : State) : (exchangeDeHl s).l = s.e := rfl
@[simp] theorem exchangeDeHl_sp (s : State) : (exchangeDeHl s).sp = s.sp := rfl
@[simp] theorem exchangeDeHl_pc (s : State) : (exchangeDeHl s).pc = s.pc := rfl
@[simp] theorem exchangeDeHl_flags (s : State) : (exchangeDeHl s).flags = s.flags := rfl
@[simp] theorem exchangeDeHl_inte (s : State) : (exchangeDeHl s).inte = s.inte := rfl
@[simp] theorem exchangeDeHl_status (s : State) : (exchangeDeHl s).status = s.status := rfl
@[simp] theorem exchangeDeHl_mem (s : State) : (exchangeDeHl s).mem = s.mem := rfl
@[simp] theorem exchangeDeHl_imageEnd (s : State) : (exchangeDeHl s).imageEnd = s.imageEnd := rfl
@[simp] theorem exchangeDeHl_inDraws (s : State) : (exchangeDeHl s).inDraws = s.inDraws := rfl

@[simp] theorem push16_a (v : Word) (s : State) : (push16 v s).a = s.a := rfl
@[simp] theorem push16_b (v : Word) (s : State) : (push16 v s).b = s.b := rfl
@[simp] theorem push16_c (v : Word) (s : State) : (push16 v s).c = s.c := rfl
@[simp] theorem push16_d (v : Word) (s : State) : (push16 v s).d = s.d := rfl
@[simp] theorem push16_e (v : Word) (s : State) : (push16 v s).e = s.e := rfl
@[simp] theorem push16_h (v : Word) (s : State) : (push16 v s).h = s.h := rfl
@[simp] theorem push16_l (v : Word) (s : State) : (push16 v s).l = s.l := rfl
@[simp] theorem push16_sp (v : Word) (s : State) : (push16 v s).sp = s.sp - 2 := rfl
@[simp] theorem push16_pc (v : Word) (s : State) : (push16 v s).pc = s.pc := rfl
@[simp] theorem push16_flags (v : Word) (s : State) : (push16 v s).flags = s.flags := rfl
@[simp] theorem push16_inte (v : Word) (s : State) : (push16 v s).inte = s.inte := rfl
@[simp] theorem push16_status (v : Word) (s : State) : (push16 v s).status = s.status := rfl
@[simp] theorem push16_mem (v : Word) (s : State) : (push16 v s).mem = Memory.write (Memory.write s.mem (s.sp - 1) (highByte v)) (s.sp - 2) (lowByte v) := rfl
@[simp] theorem push16_imageEnd (v : Word) (s : State) : (push16 v s).imageEnd = s.imageEnd := rfl
@[simp] theorem push16_inDraws (v : Word) (s : State) : (push16 v s).inDraws = s.inDraws := rfl

@[simp] theorem dropPopped_a (s : State) : (dropPopped s).a = s.a := rfl
@[simp] theorem dropPopped_b (s : State) : (dropPopped s).b = s.b := rfl
@[simp] theorem dropPopped_c (s : State) : (dropPopped s).c = s.c := rfl
@[simp] theorem dropPopped_d (s : State) : (dropPopped s).d = s.d := rfl
@[simp] theorem dropPopped_e (s : State) : (dropPopped s).e = s.e := rfl
@[simp] theorem dropPopped_h (s : State) : (dropPopped s).h = s.h := rfl
@[simp] theorem dropPopped_l (s : State) : (dropPopped s).l = s.l := rfl
@[simp] theorem dropPopped_sp (s : State) : (dropPopped s).sp = s.sp + 2 := rfl
@[simp] theorem dropPopped_pc (s : State) : (dropPopped s).pc = s.pc := rfl
@[simp] theorem dropPopped_flags (s : State) : (dropPopped s).flags = s.flags := rfl
@[simp] theorem dropPopped_inte (s : State) : (dropPopped s).inte = s.inte := rfl
@[simp] theorem dropPopped_status (s : State) : (dropPopped s).status = s.status := rfl
@[simp] theorem dropPopped_mem (s : State) : (dropPopped s).mem = s.mem := rfl
@[simp] theorem dropPopped_imageEnd (s : State) : (dropPopped s).imageEnd = s.imageEnd := rfl
@[simp] theorem dropPopped_inDraws (s : State) : (dropPopped s).inDraws = s.inDraws := rfl

@[simp] theorem writeMem16_a (x v : Word) (s : State) : (writeMem16 x v s).a = s.a := rfl
@[simp] theorem writeMem16_b (x v : Word) (s : State) : (writeMem16 x v s).b = s.b := rfl
@[simp] theorem writeMem16_c (x v : Word) (s : State) : (writeMem16 x v s).c = s.c := rfl
@[simp] theorem writeMem16_d (x v : Word) (s : State) : (writeMem16 x v s).d = s.d := rfl
@[simp] theorem writeMem16_e (x v : Word) (s : State) : (writeMem16 x v s).e = s.e := rfl
@[simp] theorem writeMem16_h (x v : Word) (s : State) : (writeMem16 x v s).h = s.h := rfl
@[simp] theorem writeMem16_l (x v : Word) (s : State) : (writeMem16 x v s).l = s.l := rfl
@[simp] theorem writeMem16_sp (x v : Word) (s : State) : (writeMem16 x v s).sp = s.sp := rfl
@[simp] theorem writeMem16_pc (x v : Word) (s : State) : (writeMem16 x v s).pc = s.pc := rfl
@[simp] theorem writeMem16_flags (x v : Word) (s : State) : (writeMem16 x v s).flags = s.flags := rfl
@[simp] theorem writeMem16_inte (x v : Word) (s : State) : (writeMem16 x v s).inte = s.inte := rfl
@[simp] theorem writeMem16_status (x v : Word) (s : State) : (writeMem16 x v s).status = s.status := rfl
@[simp] theorem writeMem16_mem (x v : Word) (s : State) : (writeMem16 x v s).mem = Memory.write (Memory.write s.mem x (lowByte v)) (x + 1) (highByte v) := rfl
@[simp] theorem writeMem16_imageEnd (x v : Word) (s : State) : (writeMem16 x v s).imageEnd = s.imageEnd := rfl
@[simp] theorem writeMem16_inDraws (x v : Word) (s : State) : (writeMem16 x v s).inDraws = s.inDraws := rfl

@[simp] theorem raiseUnimplemented_a (op : Byte) (s : State) : (raiseUnimplemented op s).a = s.a := rfl
@[simp] theorem raiseUnimplemented_b (op : Byte) (s : State) : (raiseUnimplemented op s).b = s.b := rfl
@[simp] theorem raiseUnimplemented_c (op : Byte) (s : State) : (raiseUnimplemented op s).c = s.c := rfl
@[simp] theorem raiseUnimplemented_d (op : Byte) (s : State) : (raiseUnimplemented op s).d = s.d := rfl
@[simp] theorem raiseUnimplemented_e (op : Byte) (s : State) : (raiseUnimplemented op s).e = s.e := rfl
@[simp] theorem raiseUnimplemented_h (op : Byte) (s : State) : (raiseUnimplemented op s).h = s.h := rfl
@[simp] theorem raiseUnimplemented_l (op : Byte) (s : State) : (raiseUnimplemented op s).l = s.l := rfl
@[simp] theorem raiseUnimplemented_sp (op : Byte) (s : State) : (raiseUnimplemented op s).sp = s.sp := rfl
@[simp] theorem raiseUnimplemented_pc (op : Byte) (s : State) : (raiseUnimplemented op s).pc = s.pc := rfl
@[simp] theorem raiseUnimplemented_flags (op : Byte) (s : State) : (raiseUnimplemented op s).flags = s.flags := rfl
@[simp] theorem raiseUnimplemented_inte (op : Byte) (s : State) : (raiseUnimplemented op s).inte = s.inte := rfl
@[simp] theorem raiseUnimplemented_status (op : Byte) (s : State) : (raiseUnimplemented op s).status = .fault s.pc op := rfl
@[simp] theorem raiseUnimplemented_mem (op : Byte) (s : State) : (raiseUnimplemented op s).mem = s.mem := rfl
@[simp] theorem raiseUnimplemented_imageEnd (op : Byte) (s : State) : (raiseUnimplemented op s).imageEnd = s.imageEnd := rfl
@[simp] theorem raiseUnimplemented_inDraws (op : Byte) (s : State) : (raiseUnimplemented op s).inDraws = s.inDraws := rfl

@[simp] theorem endAtBoundary_a (s : State) : (endAtBoundary s).a = s.a := rfl
@[simp] theorem endAtBoundary_b (s : State) : (endAtBoundary s).b = s.b := rfl
@[simp] theorem endAtBoundary_c (s : State) : (endAtBoundary s).c = s.c := rfl
@[simp] theorem endAtBoundary_d (s : State) : (endAtBoundary s).d = s.d := rfl
@[simp] theorem endAtBoundary_e (s : State) : (endAtBoundary s).e = s.e := rfl
@[simp] theorem endAtBoundary_h (s : State) : (endAtBoundary s).h = s.h := rfl
@[simp] theorem endAtBoundary_l (s : State) : (endAtBoundary s).l = s.l := rfl
@[simp] theorem endAtBoundary_sp (s : State) : (endAtBoundary s).sp = s.sp := rfl
@[simp] theorem endAtBoundary_pc (s : State) : (endAtBoundary s).pc = s.pc := rfl
@[simp] theorem endAtBoundary_flags (s : State) : (endAtBoundary s).flags = s.flags := rfl
@[simp] theorem endAtBoundary_inte (s : State) : (endAtBoundary s).inte = s.inte := rfl
@[simp] theorem endAtBoundary_status (s : State) : (endAtBoundary s).status = .boundary := rfl
@[simp] theorem endAtBoundary_mem (s : State) : (endAtBoundary s).mem = s.mem := rfl
@[simp] theorem endAtBoundary_imageEnd (s : State) : (endAtBoundary s).imageEnd = s.imageEnd := rfl
@[simp] theorem endAtBoundary_inDraws (s : State) : (endAtBoundary s).inDraws = s.inDraws := rfl

@[simp] theorem writeReg_sp (r : Reg) (v : Byte) (s : State) : (writeReg r v s).sp = s.sp := by cases r <;> rfl
@[simp] theorem writeReg_pc (r : Reg) (v : Byte) (s : State) : (writeReg r v s).pc = s.pc := by cases r <;> rfl
@[simp] theorem writeReg_flags (r : Reg) (v : Byte) (s : State) : (writeReg r v s).flags = s.flags := by cases r <;> rfl
@[simp] theorem writeReg_inte (r : Reg) (v : Byte) (s : State) : (writeReg r v s).inte = s.inte := by cases r <;> rfl
@[simp] theorem writeReg_status (r : Reg) (v : Byte) (s : State) : (writeReg r v s).status = s.status := by cases r <;> rfl
@[simp] theorem writeReg_mem (r : Reg) (v : Byte) (s : State) : (writeReg r v s).mem = s.mem := by cases r <;> rfl
@[simp] theorem writeReg_imageEnd (r : Reg) (v : Byte) (s : State) : (writeReg r v s).imageEnd = s.imageEnd := by cases r <;> rfl
@[simp] theorem writeReg_inDraws (r : Reg) (v : Byte) (s : State) : (writeReg r v s).inDraws = s.inDraws := by cases r <;> rfl

@[simp] theorem writePair_sp (p : RegPair) (v : Word) (s : State) : (writePair p v s).sp = s.sp := by cases p <;> rfl
@[simp] theorem writePair_pc (p : RegPair) (v : Word) (s : State) : (writePair p v s).pc = s.pc := by cases p <;> rfl
@[simp] theorem writePair_flags (p : RegPair) (v : Word) (s : State) : (writePair p v s).flags = s.flags := by cases p <;> rfl
@[simp] theorem writePair_inte (p : RegPair) (v : Word) (s : State) : (writePair p v s).inte = s.inte := by cases p <;> rfl
@[simp] theorem writePair_status (p : RegPair) (v : Word) (s : State) : (writePair p v s).status = s.status := by cases p <;> rfl
@[simp] theorem writePair_mem (p : RegPair) (v : Word) (s : State) : (writePair p v s).mem = s.mem := by cases p <;> rfl
@[simp] theorem writePair_imageEnd (p : RegPair) (v : Word) (s : State) : (writePair p v s).imageEnd = s.imageEnd := by cases p <;> rfl
@[simp] theorem writePair_inDraws (p : RegPair) (v : Word) (s : State) : (writePair p v s).inDraws = s.inDraws := by cases p <;> rfl

@[simp] theorem writePair16_pc (p : Pair16) (v : Word) (s : State) : (writePair16 p v s).pc = s.pc := by cases p <;> rfl
@[simp] theorem writePair16_flags (p : Pair16) (v : Word) (s : State) : (writePair16 p v s).flags = s.flags := by cases p <;> rfl
@[simp] theorem writePair16_inte (p : Pair16) (v : Word) (s : State) : (writePair16 p v s).inte = s.inte := by cases p <;> rfl
@[simp] theorem writePair16_status (p : Pair16) (v : Word) (s : State) : (writePair16 p v s).status = s.status := by cases p <;> rfl
@[simp] theorem writePair16_mem (p : Pair16) (v : Word) (s : State) : (writePair16 p v s).mem = s.mem := by cases p <;> rfl
@[simp] theorem writePair16_imageEnd (p : Pair16) (v : Word) (s : State) : (writePair16 p v s).imageEnd = s.imageEnd := by cases p <;> rfl
@[simp] theorem writePair16_inDraws (p : Pair16) (v : Word) (s : State) : (writePair16 p v s).inDraws = s.inDraws := by cases p <;> rfl

/-- A write of one register sets it and keeps the others. -/
@[simp] theorem readReg_writeReg (q r : Reg) (v : Byte) (s : State) :
    readReg q (writeReg r v s) = if q = r then v else readReg q s := by
  cases q <;> cases r <;> rfl

@[simp] theorem readReg_setSp (r : Reg) (v : Word) (s : State) : readReg r (setSp v s) = readReg r s := by cases r <;> rfl
@[simp] theorem readReg_setFlags (r : Reg) (f : Flags) (s : State) : readReg r (setFlags f s) = readReg r s := by cases r <;> rfl
@[simp] theorem readReg_setCarry (r : Reg) (v : Bool) (s : State) : readReg r (setCarry v s) = readReg r s := by cases r <;> rfl
@[simp] theorem readReg_setInte (r : Reg) (v : Bool) (s : State) : readReg r (setInte v s) = readReg r s := by cases r <;> rfl
@[simp] theorem readReg_setStatus (r : Reg) (v : Status) (s : State) : readReg r (setStatus v s) = readReg r s := by cases r <;> rfl
@[simp] theorem readReg_takeDraw (r : Reg) (s : State) : readReg r (takeDraw s) = readReg r s := by cases r <;> rfl
@[simp] theorem readReg_writeMem (r : Reg) (x : Word) (v : Byte) (s : State) : readReg r (writeMem x v s) = readReg r s := by cases r <;> rfl
@[simp] theorem readReg_advance (r : Reg) (width : Nat) (s : State) : readReg r (advance width s) = readReg r s := by cases r <;> rfl
@[simp] theorem readReg_jumpTo (r : Reg) (target : Word) (s : State) : readReg r (jumpTo target s) = readReg r s := by cases r <;> rfl
@[simp] theorem readReg_push16 (r : Reg) (v : Word) (s : State) : readReg r (push16 v s) = readReg r s := by cases r <;> rfl
@[simp] theorem readReg_dropPopped (r : Reg) (s : State) : readReg r (dropPopped s) = readReg r s := by cases r <;> rfl
@[simp] theorem readReg_writeMem16 (r : Reg) (x v : Word) (s : State) : readReg r (writeMem16 x v s) = readReg r s := by cases r <;> rfl
@[simp] theorem readReg_raiseUnimplemented (r : Reg) (op : Byte) (s : State) : readReg r (raiseUnimplemented op s) = readReg r s := by cases r <;> rfl
@[simp] theorem readReg_endAtBoundary (r : Reg) (s : State) : readReg r (endAtBoundary s) = readReg r s := by cases r <;> rfl

/-- The register pairs keep their values under a write elsewhere. -/
@[simp] theorem readPair_writeMem (p : RegPair) (x : Word) (v : Byte) (s : State) :
    readPair p (writeMem x v s) = readPair p s := by cases p <;> rfl

@[simp] theorem readMem_writeReg (x : Word) (r : Reg) (v : Byte) (s : State) : readMem x (writeReg r v s) = readMem x s := by
  simp [readMem]

@[simp] theorem readMem_writePair (x : Word) (p : RegPair) (v : Word) (s : State) :
    readMem x (writePair p v s) = readMem x s := by
  simp [readMem]

@[simp] theorem readMem_setSp (x : Word) (v : Word) (s : State) : readMem x (setSp v s) = readMem x s := rfl
@[simp] theorem readMem_setFlags (x : Word) (f : Flags) (s : State) : readMem x (setFlags f s) = readMem x s := rfl
@[simp] theorem readMem_setCarry (x : Word) (v : Bool) (s : State) : readMem x (setCarry v s) = readMem x s := rfl
@[simp] theorem readMem_setInte (x : Word) (v : Bool) (s : State) : readMem x (setInte v s) = readMem x s := rfl
@[simp] theorem readMem_setStatus (x : Word) (v : Status) (s : State) : readMem x (setStatus v s) = readMem x s := rfl
@[simp] theorem readMem_takeDraw (x : Word) (s : State) : readMem x (takeDraw s) = readMem x s := rfl
@[simp] theorem readMem_advance (x : Word) (width : Nat) (s : State) : readMem x (advance width s) = readMem x s := rfl
@[simp] theorem readMem_jumpTo (x : Word) (target : Word) (s : State) : readMem x (jumpTo target s) = readMem x s := rfl
@[simp] theorem readMem_exchangeDeHl (x : Word) (s : State) : readMem x (exchangeDeHl s) = readMem x s := rfl
@[simp] theorem readMem_dropPopped (x : Word) (s : State) : readMem x (dropPopped s) = readMem x s := rfl
@[simp] theorem readMem_raiseUnimplemented (x : Word) (op : Byte) (s : State) : readMem x (raiseUnimplemented op s) = readMem x s := rfl
@[simp] theorem readMem_endAtBoundary (x : Word) (s : State) : readMem x (endAtBoundary s) = readMem x s := rfl

end Sys2Proof.Machine
end

