-- ==== Sys2Proof/Laws/Ops.lean ====
section
/-! SUPPORT. For each shared operation, what it does, said once. -/

namespace Sys2Proof.Machine

/-! ## Pairing -/

theorem combine_toNat (hi lo : Byte) : (combine hi lo).toNat = 256 * hi.toNat + lo.toNat := by
  have := lo.isLt
  simp only [combine, BitVec.toNat_append]
  rw [Nat.shiftLeft_eq, ← Nat.shiftLeft_eq, ← Nat.shiftLeft_add_eq_or_of_lt (by simpa using lo.isLt), Nat.shiftLeft_eq]
  omega

@[simp] theorem highByte_combine (hi lo : Byte) : highByte (combine hi lo) = hi := by
  apply BitVec.eq_of_toNat_eq
  have h := combine_toNat hi lo
  have := lo.isLt
  have := hi.isLt
  simp only [highByte, BitVec.extractLsb'_toNat, Nat.shiftRight_eq_div_pow, h]
  omega

@[simp] theorem lowByte_combine (hi lo : Byte) : lowByte (combine hi lo) = lo := by
  apply BitVec.eq_of_toNat_eq
  have h := combine_toNat hi lo
  have := lo.isLt
  simp only [lowByte, BitVec.extractLsb'_toNat, Nat.shiftRight_eq_div_pow, h]
  omega

@[simp] theorem combine_highByte_lowByte (v : Word) : combine (highByte v) (lowByte v) = v := by
  apply BitVec.eq_of_toNat_eq
  have := v.isLt
  rw [combine_toNat]
  simp only [highByte, lowByte, BitVec.extractLsb'_toNat, Nat.shiftRight_eq_div_pow]
  omega

/-! ## Memory -/

/-- A byte read after a byte was written. -/
theorem readMem_writeMem (a b : Word) (v : Byte) (s : State) :
    readMem b (writeMem a v s) = if b = a then v else readMem b s := by
  simp only [readMem, writeMem, Memory.read, Memory.write, Memory.readAt_writeAt, BitVec.toNat_inj]

/-- A byte read after two bytes were written in order. -/
theorem readMem_writeMem16 (a b v : Word) (s : State) :
    readMem b (writeMem16 a v s) =
      if b = a + 1 then highByte v else if b = a then lowByte v else readMem b s := by
  simp only [writeMem16, readMem_writeMem]

/-! ## The stack -/

/-- What `push16` does (R290). -/
theorem push16_pushed (v : Word) (s : State) : Pushed v s (push16 v s) := by
  have h : ∀ x : Word, readMem x (push16 v s) =
      if x = s.sp - 2 then lowByte v else if x = s.sp - 1 then highByte v else readMem x s := by
    intro x
    simp only [push16, readMem_setSp, readMem_writeMem]
  have hne : s.sp - 1 ≠ s.sp - 2 := by bv_omega
  refine ⟨by rw [h, if_neg hne, if_pos rfl], by rw [h, if_pos rfl], rfl, ?_⟩
  intro x hx
  simp only [List.mem_cons, List.not_mem_nil, or_false, not_or] at hx
  rw [h, if_neg hx.2, if_neg hx.1]

/-- `push16` changes nothing but memory and `SP`. -/
theorem push16_eq (v : Word) (s : State) : push16 v s = { s with mem := (push16 v s).mem, sp := (push16 v s).sp } := rfl

/-- What a call does: the address after it is pushed, and `PC` is the target (R292, R310). -/
theorem callTo_spec (target : Word) (width : Nat) (s : State) :
    Pushed (nextPc width s) s (callTo target width s) ∧
      callTo target width s =
        { s with mem := (callTo target width s).mem, sp := (callTo target width s).sp, pc := target } :=
  ⟨push16_pushed (nextPc width s) s, rfl⟩

/-- What a return does: `PC` is the popped value, `SP` two higher, and nothing else changes (R301). -/
theorem returnFrom_eq (s : State) :
    returnFrom s = { s with pc := combine (readMem (s.sp + 1) s) (readMem s.sp s), sp := s.sp + 2 } := rfl

/-- What `pop16` returns after `push16` (R291). -/
theorem popValue_of_pushed {v : Word} {s t : State} (h : Pushed v s t) : popValue t = v := by
  obtain ⟨hhi, hlo, hsp, -⟩ := h
  have hnext : s.sp - 2 + 1 = s.sp - 1 := by bv_omega
  simp only [popValue, readMem16, hsp, hnext, hhi, hlo, combine_highByte_lowByte]

/-! ## The flag ALU -/

/-- The result of `add8`, and that its flags do not depend on the flags before (R171). -/
theorem add8_fst (a v : Byte) (cin : Bool) : (add8 a v cin).1 = BitVec.ofNat 8 (sum8 a v cin) := rfl

/-- The result of `sub8` (R172). -/
theorem sub8_fst (a v : Byte) (bin : Bool) : (sub8 a v bin).1 = BitVec.ofInt 8 (diff8 a v bin) := rfl

/-- What an ALU operation writes: A, the flags and `PC`. -/
theorem writeAlu_eq (r : Byte × Flags) (v : Src) (s : State) :
    writeAlu r v s = { s with a := r.1, flags := r.2, pc := nextPc (srcWidth v) s } := rfl

/-! ## Taking the exception -/

/-- Taking `UnimplementedOpcode` writes the status and nothing else (R114). -/
theorem raiseUnimplemented_eq (op : Byte) (s : State) : raiseUnimplemented op s = { s with status := .fault s.pc op } := rfl

end Sys2Proof.Machine
end

