-- ==== Sys2Proof/Laws/PerInstr.lean ====
section
/-! SUPPORT. One law per instruction about its encoding as syntax. -/

namespace Sys2Proof.Laws

/-- The encoding of an instruction is as long as its opcode byte says, one to three bytes, and starts with its opcode
(R80, R91). -/
def Encoding.Statement (i : Instr) : Prop :=
  (encode i).length = instrLength (opcodeOf i) ∧ 1 ≤ instrLength (opcodeOf i) ∧ instrLength (opcodeOf i) ≤ 3

theorem encoding_of_lengths {i : Instr} (h : (encode i).length = instrLength (opcodeOf i))
    (lower : Nat.ble 1 (instrLength (opcodeOf i)) = true) (upper : Nat.ble (instrLength (opcodeOf i)) 3 = true) :
    Encoding.Statement i :=
  ⟨h, Nat.le_of_ble_eq_true lower, Nat.le_of_ble_eq_true upper⟩

theorem Encoding.nop : Encoding.Statement (.nop) :=
  encoding_of_lengths rfl rfl rfl
theorem Encoding.lxiB (d16 : Word) : Encoding.Statement (.lxiB d16) :=
  encoding_of_lengths rfl rfl rfl
theorem Encoding.staxB : Encoding.Statement (.staxB) :=
  encoding_of_lengths rfl rfl rfl
theorem Encoding.inxB : Encoding.Statement (.inxB) :=
  encoding_of_lengths rfl rfl rfl
theorem Encoding.inrB : Encoding.Statement (.inrB) :=
  encoding_of_lengths rfl rfl rfl
theorem Encoding.dcrB : Encoding.Statement (.dcrB) :=
  encoding_of_lengths rfl rfl rfl
theorem Encoding.mviB (d8 : Byte) : Encoding.Statement (.mviB d8) :=
  encoding_of_lengths rfl rfl rfl
theorem Encoding.rlc : Encoding.Statement (.rlc) :=
  encoding_of_lengths rfl rfl rfl
theorem Encoding.undefined08 : Encoding.Statement (.undefined08) :=
  encoding_of_lengths rfl rfl rfl
theorem Encoding.dadB : Encoding.Statement (.dadB) :=
  encoding_of_lengths rfl rfl rfl
theorem Encoding.ldaxB : Encoding.Statement (.ldaxB) :=
  encoding_of_lengths rfl rfl rfl
theorem Encoding.dcxB : Encoding.Statement (.dcxB) :=
  encoding_of_lengths rfl rfl rfl
theorem Encoding.inrC : Encoding.Statement (.inrC) :=
  encoding_of_lengths rfl rfl rfl
theorem Encoding.dcrC : Encoding.Statement (.dcrC) :=
  encoding_of_lengths rfl rfl rfl
theorem Encoding.mviC (d8 : Byte) : Encoding.Statement (.mviC d8) :=
  encoding_of_lengths rfl rfl rfl
theorem Encoding.rrc : Encoding.Statement (.rrc) :=
  encoding_of_lengths rfl rfl rfl
theorem Encoding.undefined10 : Encoding.Statement (.undefined10) :=
  encoding_of_lengths rfl rfl rfl
theorem Encoding.lxiD (d16 : Word) : Encoding.Statement (.lxiD d16) :=
  encoding_of_lengths rfl rfl rfl
theorem Encoding.staxD : Encoding.Statement (.staxD) :=
  encoding_of_lengths rfl rfl rfl
theorem Encoding.inxD : Encoding.Statement (.inxD) :=
  encoding_of_lengths rfl rfl rfl
theorem Encoding.inrD : Encoding.Statement (.inrD) :=
  encoding_of_lengths rfl rfl rfl
theorem Encoding.dcrD : Encoding.Statement (.dcrD) :=
  encoding_of_lengths rfl rfl rfl
theorem Encoding.mviD (d8 : Byte) : Encoding.Statement (.mviD d8) :=
  encoding_of_lengths rfl rfl rfl
theorem Encoding.ral : Encoding.Statement (.ral) :=
  encoding_of_lengths rfl rfl rfl
theorem Encoding.undefined18 : Encoding.Statement (.undefined18) :=
  encoding_of_lengths rfl rfl rfl
theorem Encoding.dadD : Encoding.Statement (.dadD) :=
  encoding_of_lengths rfl rfl rfl
theorem Encoding.ldaxD : Encoding.Statement (.ldaxD) :=
  encoding_of_lengths rfl rfl rfl
theorem Encoding.dcxD : Encoding.Statement (.dcxD) :=
  encoding_of_lengths rfl rfl rfl
theorem Encoding.inrE : Encoding.Statement (.inrE) :=
  encoding_of_lengths rfl rfl rfl
theorem Encoding.dcrE : Encoding.Statement (.dcrE) :=
  encoding_of_lengths rfl rfl rfl
theorem Encoding.mviE (d8 : Byte) : Encoding.Statement (.mviE d8) :=
  encoding_of_lengths rfl rfl rfl
theorem Encoding.rar : Encoding.Statement (.rar) :=
  encoding_of_lengths rfl rfl rfl
theorem Encoding.undefined20 : Encoding.Statement (.undefined20) :=
  encoding_of_lengths rfl rfl rfl
theorem Encoding.lxiH (d16 : Word) : Encoding.Statement (.lxiH d16) :=
  encoding_of_lengths rfl rfl rfl
theorem Encoding.shld (a16 : Word) : Encoding.Statement (.shld a16) :=
  encoding_of_lengths rfl rfl rfl
theorem Encoding.inxH : Encoding.Statement (.inxH) :=
  encoding_of_lengths rfl rfl rfl
theorem Encoding.inrH : Encoding.Statement (.inrH) :=
  encoding_of_lengths rfl rfl rfl
theorem Encoding.dcrH : Encoding.Statement (.dcrH) :=
  encoding_of_lengths rfl rfl rfl
theorem Encoding.mviH (d8 : Byte) : Encoding.Statement (.mviH d8) :=
  encoding_of_lengths rfl rfl rfl
theorem Encoding.daa : Encoding.Statement (.daa) :=
  encoding_of_lengths rfl rfl rfl
theorem Encoding.undefined28 : Encoding.Statement (.undefined28) :=
  encoding_of_lengths rfl rfl rfl
theorem Encoding.dadH : Encoding.Statement (.dadH) :=
  encoding_of_lengths rfl rfl rfl
theorem Encoding.lhld (a16 : Word) : Encoding.Statement (.lhld a16) :=
  encoding_of_lengths rfl rfl rfl
theorem Encoding.dcxH : Encoding.Statement (.dcxH) :=
  encoding_of_lengths rfl rfl rfl
theorem Encoding.inrL : Encoding.Statement (.inrL) :=
  encoding_of_lengths rfl rfl rfl
theorem Encoding.dcrL : Encoding.Statement (.dcrL) :=
  encoding_of_lengths rfl rfl rfl
theorem Encoding.mviL (d8 : Byte) : Encoding.Statement (.mviL d8) :=
  encoding_of_lengths rfl rfl rfl
theorem Encoding.cma : Encoding.Statement (.cma) :=
  encoding_of_lengths rfl rfl rfl
theorem Encoding.undefined30 : Encoding.Statement (.undefined30) :=
  encoding_of_lengths rfl rfl rfl
theorem Encoding.lxiSp (d16 : Word) : Encoding.Statement (.lxiSp d16) :=
  encoding_of_lengths rfl rfl rfl
theorem Encoding.sta (a16 : Word) : Encoding.Statement (.sta a16) :=
  encoding_of_lengths rfl rfl rfl
theorem Encoding.inxSp : Encoding.Statement (.inxSp) :=
  encoding_of_lengths rfl rfl rfl
theorem Encoding.inrM : Encoding.Statement (.inrM) :=
  encoding_of_lengths rfl rfl rfl
theorem Encoding.dcrM : Encoding.Statement (.dcrM) :=
  encoding_of_lengths rfl rfl rfl
theorem Encoding.mviM (d8 : Byte) : Encoding.Statement (.mviM d8) :=
  encoding_of_lengths rfl rfl rfl
theorem Encoding.stc : Encoding.Statement (.stc) :=
  encoding_of_lengths rfl rfl rfl
theorem Encoding.undefined38 : Encoding.Statement (.undefined38) :=
  encoding_of_lengths rfl rfl rfl
theorem Encoding.dadSp : Encoding.Statement (.dadSp) :=
  encoding_of_lengths rfl rfl rfl
theorem Encoding.lda (a16 : Word) : Encoding.Statement (.lda a16) :=
  encoding_of_lengths rfl rfl rfl
theorem Encoding.dcxSp : Encoding.Statement (.dcxSp) :=
  encoding_of_lengths rfl rfl rfl
theorem Encoding.inrA : Encoding.Statement (.inrA) :=
  encoding_of_lengths rfl rfl rfl
theorem Encoding.dcrA : Encoding.Statement (.dcrA) :=
  encoding_of_lengths rfl rfl rfl
theorem Encoding.mviA (d8 : Byte) : Encoding.Statement (.mviA d8) :=
  encoding_of_lengths rfl rfl rfl
theorem Encoding.cmc : Encoding.Statement (.cmc) :=
  encoding_of_lengths rfl rfl rfl
theorem Encoding.movBB : Encoding.Statement (.movBB) :=
  encoding_of_lengths rfl rfl rfl
theorem Encoding.movBC : Encoding.Statement (.movBC) :=
  encoding_of_lengths rfl rfl rfl
theorem Encoding.movBD : Encoding.Statement (.movBD) :=
  encoding_of_lengths rfl rfl rfl
theorem Encoding.movBE : Encoding.Statement (.movBE) :=
  encoding_of_lengths rfl rfl rfl
theorem Encoding.movBH : Encoding.Statement (.movBH) :=
  encoding_of_lengths rfl rfl rfl
theorem Encoding.movBL : Encoding.Statement (.movBL) :=
  encoding_of_lengths rfl rfl rfl
theorem Encoding.movBM : Encoding.Statement (.movBM) :=
  encoding_of_lengths rfl rfl rfl
theorem Encoding.movBA : Encoding.Statement (.movBA) :=
  encoding_of_lengths rfl rfl rfl
theorem Encoding.movCB : Encoding.Statement (.movCB) :=
  encoding_of_lengths rfl rfl rfl
theorem Encoding.movCC : Encoding.Statement (.movCC) :=
  encoding_of_lengths rfl rfl rfl
theorem Encoding.movCD : Encoding.Statement (.movCD) :=
  encoding_of_lengths rfl rfl rfl
theorem Encoding.movCE : Encoding.Statement (.movCE) :=
  encoding_of_lengths rfl rfl rfl
theorem Encoding.movCH : Encoding.Statement (.movCH) :=
  encoding_of_lengths rfl rfl rfl
theorem Encoding.movCL : Encoding.Statement (.movCL) :=
  encoding_of_lengths rfl rfl rfl
theorem Encoding.movCM : Encoding.Statement (.movCM) :=
  encoding_of_lengths rfl rfl rfl
theorem Encoding.movCA : Encoding.Statement (.movCA) :=
  encoding_of_lengths rfl rfl rfl
theorem Encoding.movDB : Encoding.Statement (.movDB) :=
  encoding_of_lengths rfl rfl rfl
theorem Encoding.movDC : Encoding.Statement (.movDC) :=
  encoding_of_lengths rfl rfl rfl
theorem Encoding.movDD : Encoding.Statement (.movDD) :=
  encoding_of_lengths rfl rfl rfl
theorem Encoding.movDE : Encoding.Statement (.movDE) :=
  encoding_of_lengths rfl rfl rfl
theorem Encoding.movDH : Encoding.Statement (.movDH) :=
  encoding_of_lengths rfl rfl rfl
theorem Encoding.movDL : Encoding.Statement (.movDL) :=
  encoding_of_lengths rfl rfl rfl
theorem Encoding.movDM : Encoding.Statement (.movDM) :=
  encoding_of_lengths rfl rfl rfl
theorem Encoding.movDA : Encoding.Statement (.movDA) :=
  encoding_of_lengths rfl rfl rfl
theorem Encoding.movEB : Encoding.Statement (.movEB) :=
  encoding_of_lengths rfl rfl rfl
theorem Encoding.movEC : Encoding.Statement (.movEC) :=
  encoding_of_lengths rfl rfl rfl
theorem Encoding.movED : Encoding.Statement (.movED) :=
  encoding_of_lengths rfl rfl rfl
theorem Encoding.movEE : Encoding.Statement (.movEE) :=
  encoding_of_lengths rfl rfl rfl
theorem Encoding.movEH : Encoding.Statement (.movEH) :=
  encoding_of_lengths rfl rfl rfl
theorem Encoding.movEL : Encoding.Statement (.movEL) :=
  encoding_of_lengths rfl rfl rfl
theorem Encoding.movEM : Encoding.Statement (.movEM) :=
  encoding_of_lengths rfl rfl rfl
theorem Encoding.movEA : Encoding.Statement (.movEA) :=
  encoding_of_lengths rfl rfl rfl
theorem Encoding.movHB : Encoding.Statement (.movHB) :=
  encoding_of_lengths rfl rfl rfl
theorem Encoding.movHC : Encoding.Statement (.movHC) :=
  encoding_of_lengths rfl rfl rfl
theorem Encoding.movHD : Encoding.Statement (.movHD) :=
  encoding_of_lengths rfl rfl rfl
theorem Encoding.movHE : Encoding.Statement (.movHE) :=
  encoding_of_lengths rfl rfl rfl
theorem Encoding.movHH : Encoding.Statement (.movHH) :=
  encoding_of_lengths rfl rfl rfl
theorem Encoding.movHL : Encoding.Statement (.movHL) :=
  encoding_of_lengths rfl rfl rfl
theorem Encoding.movHM : Encoding.Statement (.movHM) :=
  encoding_of_lengths rfl rfl rfl
theorem Encoding.movHA : Encoding.Statement (.movHA) :=
  encoding_of_lengths rfl rfl rfl
theorem Encoding.movLB : Encoding.Statement (.movLB) :=
  encoding_of_lengths rfl rfl rfl
theorem Encoding.movLC : Encoding.Statement (.movLC) :=
  encoding_of_lengths rfl rfl rfl
theorem Encoding.movLD : Encoding.Statement (.movLD) :=
  encoding_of_lengths rfl rfl rfl
theorem Encoding.movLE : Encoding.Statement (.movLE) :=
  encoding_of_lengths rfl rfl rfl
theorem Encoding.movLH : Encoding.Statement (.movLH) :=
  encoding_of_lengths rfl rfl rfl
theorem Encoding.movLL : Encoding.Statement (.movLL) :=
  encoding_of_lengths rfl rfl rfl
theorem Encoding.movLM : Encoding.Statement (.movLM) :=
  encoding_of_lengths rfl rfl rfl
theorem Encoding.movLA : Encoding.Statement (.movLA) :=
  encoding_of_lengths rfl rfl rfl
theorem Encoding.movMB : Encoding.Statement (.movMB) :=
  encoding_of_lengths rfl rfl rfl
theorem Encoding.movMC : Encoding.Statement (.movMC) :=
  encoding_of_lengths rfl rfl rfl
theorem Encoding.movMD : Encoding.Statement (.movMD) :=
  encoding_of_lengths rfl rfl rfl
theorem Encoding.movME : Encoding.Statement (.movME) :=
  encoding_of_lengths rfl rfl rfl
theorem Encoding.movMH : Encoding.Statement (.movMH) :=
  encoding_of_lengths rfl rfl rfl
theorem Encoding.movML : Encoding.Statement (.movML) :=
  encoding_of_lengths rfl rfl rfl
theorem Encoding.hlt : Encoding.Statement (.hlt) :=
  encoding_of_lengths rfl rfl rfl
theorem Encoding.movMA : Encoding.Statement (.movMA) :=
  encoding_of_lengths rfl rfl rfl
theorem Encoding.movAB : Encoding.Statement (.movAB) :=
  encoding_of_lengths rfl rfl rfl
theorem Encoding.movAC : Encoding.Statement (.movAC) :=
  encoding_of_lengths rfl rfl rfl
theorem Encoding.movAD : Encoding.Statement (.movAD) :=
  encoding_of_lengths rfl rfl rfl
theorem Encoding.movAE : Encoding.Statement (.movAE) :=
  encoding_of_lengths rfl rfl rfl
theorem Encoding.movAH : Encoding.Statement (.movAH) :=
  encoding_of_lengths rfl rfl rfl
theorem Encoding.movAL : Encoding.Statement (.movAL) :=
  encoding_of_lengths rfl rfl rfl
theorem Encoding.movAM : Encoding.Statement (.movAM) :=
  encoding_of_lengths rfl rfl rfl
theorem Encoding.movAA : Encoding.Statement (.movAA) :=
  encoding_of_lengths rfl rfl rfl
theorem Encoding.addB : Encoding.Statement (.addB) :=
  encoding_of_lengths rfl rfl rfl
theorem Encoding.addC : Encoding.Statement (.addC) :=
  encoding_of_lengths rfl rfl rfl
theorem Encoding.addD : Encoding.Statement (.addD) :=
  encoding_of_lengths rfl rfl rfl
theorem Encoding.addE : Encoding.Statement (.addE) :=
  encoding_of_lengths rfl rfl rfl
theorem Encoding.addH : Encoding.Statement (.addH) :=
  encoding_of_lengths rfl rfl rfl
theorem Encoding.addL : Encoding.Statement (.addL) :=
  encoding_of_lengths rfl rfl rfl
theorem Encoding.addM : Encoding.Statement (.addM) :=
  encoding_of_lengths rfl rfl rfl
theorem Encoding.addA : Encoding.Statement (.addA) :=
  encoding_of_lengths rfl rfl rfl
theorem Encoding.adcB : Encoding.Statement (.adcB) :=
  encoding_of_lengths rfl rfl rfl
theorem Encoding.adcC : Encoding.Statement (.adcC) :=
  encoding_of_lengths rfl rfl rfl
theorem Encoding.adcD : Encoding.Statement (.adcD) :=
  encoding_of_lengths rfl rfl rfl
theorem Encoding.adcE : Encoding.Statement (.adcE) :=
  encoding_of_lengths rfl rfl rfl
theorem Encoding.adcH : Encoding.Statement (.adcH) :=
  encoding_of_lengths rfl rfl rfl
theorem Encoding.adcL : Encoding.Statement (.adcL) :=
  encoding_of_lengths rfl rfl rfl
theorem Encoding.adcM : Encoding.Statement (.adcM) :=
  encoding_of_lengths rfl rfl rfl
theorem Encoding.adcA : Encoding.Statement (.adcA) :=
  encoding_of_lengths rfl rfl rfl
theorem Encoding.subB : Encoding.Statement (.subB) :=
  encoding_of_lengths rfl rfl rfl
theorem Encoding.subC : Encoding.Statement (.subC) :=
  encoding_of_lengths rfl rfl rfl
theorem Encoding.subD : Encoding.Statement (.subD) :=
  encoding_of_lengths rfl rfl rfl
theorem Encoding.subE : Encoding.Statement (.subE) :=
  encoding_of_lengths rfl rfl rfl
theorem Encoding.subH : Encoding.Statement (.subH) :=
  encoding_of_lengths rfl rfl rfl
theorem Encoding.subL : Encoding.Statement (.subL) :=
  encoding_of_lengths rfl rfl rfl
theorem Encoding.subM : Encoding.Statement (.subM) :=
  encoding_of_lengths rfl rfl rfl
theorem Encoding.subA : Encoding.Statement (.subA) :=
  encoding_of_lengths rfl rfl rfl
theorem Encoding.sbbB : Encoding.Statement (.sbbB) :=
  encoding_of_lengths rfl rfl rfl
theorem Encoding.sbbC : Encoding.Statement (.sbbC) :=
  encoding_of_lengths rfl rfl rfl
theorem Encoding.sbbD : Encoding.Statement (.sbbD) :=
  encoding_of_lengths rfl rfl rfl
theorem Encoding.sbbE : Encoding.Statement (.sbbE) :=
  encoding_of_lengths rfl rfl rfl
theorem Encoding.sbbH : Encoding.Statement (.sbbH) :=
  encoding_of_lengths rfl rfl rfl
theorem Encoding.sbbL : Encoding.Statement (.sbbL) :=
  encoding_of_lengths rfl rfl rfl
theorem Encoding.sbbM : Encoding.Statement (.sbbM) :=
  encoding_of_lengths rfl rfl rfl
theorem Encoding.sbbA : Encoding.Statement (.sbbA) :=
  encoding_of_lengths rfl rfl rfl
theorem Encoding.anaB : Encoding.Statement (.anaB) :=
  encoding_of_lengths rfl rfl rfl
theorem Encoding.anaC : Encoding.Statement (.anaC) :=
  encoding_of_lengths rfl rfl rfl
theorem Encoding.anaD : Encoding.Statement (.anaD) :=
  encoding_of_lengths rfl rfl rfl
theorem Encoding.anaE : Encoding.Statement (.anaE) :=
  encoding_of_lengths rfl rfl rfl
theorem Encoding.anaH : Encoding.Statement (.anaH) :=
  encoding_of_lengths rfl rfl rfl
theorem Encoding.anaL : Encoding.Statement (.anaL) :=
  encoding_of_lengths rfl rfl rfl
theorem Encoding.anaM : Encoding.Statement (.anaM) :=
  encoding_of_lengths rfl rfl rfl
theorem Encoding.anaA : Encoding.Statement (.anaA) :=
  encoding_of_lengths rfl rfl rfl
theorem Encoding.xraB : Encoding.Statement (.xraB) :=
  encoding_of_lengths rfl rfl rfl
theorem Encoding.xraC : Encoding.Statement (.xraC) :=
  encoding_of_lengths rfl rfl rfl
theorem Encoding.xraD : Encoding.Statement (.xraD) :=
  encoding_of_lengths rfl rfl rfl
theorem Encoding.xraE : Encoding.Statement (.xraE) :=
  encoding_of_lengths rfl rfl rfl
theorem Encoding.xraH : Encoding.Statement (.xraH) :=
  encoding_of_lengths rfl rfl rfl
theorem Encoding.xraL : Encoding.Statement (.xraL) :=
  encoding_of_lengths rfl rfl rfl
theorem Encoding.xraM : Encoding.Statement (.xraM) :=
  encoding_of_lengths rfl rfl rfl
theorem Encoding.xraA : Encoding.Statement (.xraA) :=
  encoding_of_lengths rfl rfl rfl
theorem Encoding.oraB : Encoding.Statement (.oraB) :=
  encoding_of_lengths rfl rfl rfl
theorem Encoding.oraC : Encoding.Statement (.oraC) :=
  encoding_of_lengths rfl rfl rfl
theorem Encoding.oraD : Encoding.Statement (.oraD) :=
  encoding_of_lengths rfl rfl rfl
theorem Encoding.oraE : Encoding.Statement (.oraE) :=
  encoding_of_lengths rfl rfl rfl
theorem Encoding.oraH : Encoding.Statement (.oraH) :=
  encoding_of_lengths rfl rfl rfl
theorem Encoding.oraL : Encoding.Statement (.oraL) :=
  encoding_of_lengths rfl rfl rfl
theorem Encoding.oraM : Encoding.Statement (.oraM) :=
  encoding_of_lengths rfl rfl rfl
theorem Encoding.oraA : Encoding.Statement (.oraA) :=
  encoding_of_lengths rfl rfl rfl
theorem Encoding.cmpB : Encoding.Statement (.cmpB) :=
  encoding_of_lengths rfl rfl rfl
theorem Encoding.cmpC : Encoding.Statement (.cmpC) :=
  encoding_of_lengths rfl rfl rfl
theorem Encoding.cmpD : Encoding.Statement (.cmpD) :=
  encoding_of_lengths rfl rfl rfl
theorem Encoding.cmpE : Encoding.Statement (.cmpE) :=
  encoding_of_lengths rfl rfl rfl
theorem Encoding.cmpH : Encoding.Statement (.cmpH) :=
  encoding_of_lengths rfl rfl rfl
theorem Encoding.cmpL : Encoding.Statement (.cmpL) :=
  encoding_of_lengths rfl rfl rfl
theorem Encoding.cmpM : Encoding.Statement (.cmpM) :=
  encoding_of_lengths rfl rfl rfl
theorem Encoding.cmpA : Encoding.Statement (.cmpA) :=
  encoding_of_lengths rfl rfl rfl
theorem Encoding.rnz : Encoding.Statement (.rnz) :=
  encoding_of_lengths rfl rfl rfl
theorem Encoding.popB : Encoding.Statement (.popB) :=
  encoding_of_lengths rfl rfl rfl
theorem Encoding.jnz (a16 : Word) : Encoding.Statement (.jnz a16) :=
  encoding_of_lengths rfl rfl rfl
theorem Encoding.jmp (a16 : Word) : Encoding.Statement (.jmp a16) :=
  encoding_of_lengths rfl rfl rfl
theorem Encoding.cnz (a16 : Word) : Encoding.Statement (.cnz a16) :=
  encoding_of_lengths rfl rfl rfl
theorem Encoding.pushB : Encoding.Statement (.pushB) :=
  encoding_of_lengths rfl rfl rfl
theorem Encoding.adi (d8 : Byte) : Encoding.Statement (.adi d8) :=
  encoding_of_lengths rfl rfl rfl
theorem Encoding.rst0 : Encoding.Statement (.rst0) :=
  encoding_of_lengths rfl rfl rfl
theorem Encoding.rz : Encoding.Statement (.rz) :=
  encoding_of_lengths rfl rfl rfl
theorem Encoding.ret : Encoding.Statement (.ret) :=
  encoding_of_lengths rfl rfl rfl
theorem Encoding.jz (a16 : Word) : Encoding.Statement (.jz a16) :=
  encoding_of_lengths rfl rfl rfl
theorem Encoding.undefinedCB : Encoding.Statement (.undefinedCB) :=
  encoding_of_lengths rfl rfl rfl
theorem Encoding.cz (a16 : Word) : Encoding.Statement (.cz a16) :=
  encoding_of_lengths rfl rfl rfl
theorem Encoding.call (a16 : Word) : Encoding.Statement (.call a16) :=
  encoding_of_lengths rfl rfl rfl
theorem Encoding.aci (d8 : Byte) : Encoding.Statement (.aci d8) :=
  encoding_of_lengths rfl rfl rfl
theorem Encoding.rst1 : Encoding.Statement (.rst1) :=
  encoding_of_lengths rfl rfl rfl
theorem Encoding.rnc : Encoding.Statement (.rnc) :=
  encoding_of_lengths rfl rfl rfl
theorem Encoding.popD : Encoding.Statement (.popD) :=
  encoding_of_lengths rfl rfl rfl
theorem Encoding.jnc (a16 : Word) : Encoding.Statement (.jnc a16) :=
  encoding_of_lengths rfl rfl rfl
theorem Encoding.outPort (port : Byte) : Encoding.Statement (.outPort port) :=
  encoding_of_lengths rfl rfl rfl
theorem Encoding.cnc (a16 : Word) : Encoding.Statement (.cnc a16) :=
  encoding_of_lengths rfl rfl rfl
theorem Encoding.pushD : Encoding.Statement (.pushD) :=
  encoding_of_lengths rfl rfl rfl
theorem Encoding.sui (d8 : Byte) : Encoding.Statement (.sui d8) :=
  encoding_of_lengths rfl rfl rfl
theorem Encoding.rst2 : Encoding.Statement (.rst2) :=
  encoding_of_lengths rfl rfl rfl
theorem Encoding.rc : Encoding.Statement (.rc) :=
  encoding_of_lengths rfl rfl rfl
theorem Encoding.undefinedD9 : Encoding.Statement (.undefinedD9) :=
  encoding_of_lengths rfl rfl rfl
theorem Encoding.jc (a16 : Word) : Encoding.Statement (.jc a16) :=
  encoding_of_lengths rfl rfl rfl
theorem Encoding.inPort (port : Byte) : Encoding.Statement (.inPort port) :=
  encoding_of_lengths rfl rfl rfl
theorem Encoding.cc (a16 : Word) : Encoding.Statement (.cc a16) :=
  encoding_of_lengths rfl rfl rfl
theorem Encoding.undefinedDD : Encoding.Statement (.undefinedDD) :=
  encoding_of_lengths rfl rfl rfl
theorem Encoding.sbi (d8 : Byte) : Encoding.Statement (.sbi d8) :=
  encoding_of_lengths rfl rfl rfl
theorem Encoding.rst3 : Encoding.Statement (.rst3) :=
  encoding_of_lengths rfl rfl rfl
theorem Encoding.rpo : Encoding.Statement (.rpo) :=
  encoding_of_lengths rfl rfl rfl
theorem Encoding.popH : Encoding.Statement (.popH) :=
  encoding_of_lengths rfl rfl rfl
theorem Encoding.jpo (a16 : Word) : Encoding.Statement (.jpo a16) :=
  encoding_of_lengths rfl rfl rfl
theorem Encoding.xthl : Encoding.Statement (.xthl) :=
  encoding_of_lengths rfl rfl rfl
theorem Encoding.cpo (a16 : Word) : Encoding.Statement (.cpo a16) :=
  encoding_of_lengths rfl rfl rfl
theorem Encoding.pushH : Encoding.Statement (.pushH) :=
  encoding_of_lengths rfl rfl rfl
theorem Encoding.ani (d8 : Byte) : Encoding.Statement (.ani d8) :=
  encoding_of_lengths rfl rfl rfl
theorem Encoding.rst4 : Encoding.Statement (.rst4) :=
  encoding_of_lengths rfl rfl rfl
theorem Encoding.rpe : Encoding.Statement (.rpe) :=
  encoding_of_lengths rfl rfl rfl
theorem Encoding.pchl : Encoding.Statement (.pchl) :=
  encoding_of_lengths rfl rfl rfl
theorem Encoding.jpe (a16 : Word) : Encoding.Statement (.jpe a16) :=
  encoding_of_lengths rfl rfl rfl
theorem Encoding.xchg : Encoding.Statement (.xchg) :=
  encoding_of_lengths rfl rfl rfl
theorem Encoding.cpe (a16 : Word) : Encoding.Statement (.cpe a16) :=
  encoding_of_lengths rfl rfl rfl
theorem Encoding.undefinedED : Encoding.Statement (.undefinedED) :=
  encoding_of_lengths rfl rfl rfl
theorem Encoding.xri (d8 : Byte) : Encoding.Statement (.xri d8) :=
  encoding_of_lengths rfl rfl rfl
theorem Encoding.rst5 : Encoding.Statement (.rst5) :=
  encoding_of_lengths rfl rfl rfl
theorem Encoding.rp : Encoding.Statement (.rp) :=
  encoding_of_lengths rfl rfl rfl
theorem Encoding.popPsw : Encoding.Statement (.popPsw) :=
  encoding_of_lengths rfl rfl rfl
theorem Encoding.jp (a16 : Word) : Encoding.Statement (.jp a16) :=
  encoding_of_lengths rfl rfl rfl
theorem Encoding.di : Encoding.Statement (.di) :=
  encoding_of_lengths rfl rfl rfl
theorem Encoding.cp (a16 : Word) : Encoding.Statement (.cp a16) :=
  encoding_of_lengths rfl rfl rfl
theorem Encoding.pushPsw : Encoding.Statement (.pushPsw) :=
  encoding_of_lengths rfl rfl rfl
theorem Encoding.ori (d8 : Byte) : Encoding.Statement (.ori d8) :=
  encoding_of_lengths rfl rfl rfl
theorem Encoding.rst6 : Encoding.Statement (.rst6) :=
  encoding_of_lengths rfl rfl rfl
theorem Encoding.rm : Encoding.Statement (.rm) :=
  encoding_of_lengths rfl rfl rfl
theorem Encoding.sphl : Encoding.Statement (.sphl) :=
  encoding_of_lengths rfl rfl rfl
theorem Encoding.jm (a16 : Word) : Encoding.Statement (.jm a16) :=
  encoding_of_lengths rfl rfl rfl
theorem Encoding.ei : Encoding.Statement (.ei) :=
  encoding_of_lengths rfl rfl rfl
theorem Encoding.cm (a16 : Word) : Encoding.Statement (.cm a16) :=
  encoding_of_lengths rfl rfl rfl
theorem Encoding.undefinedFD : Encoding.Statement (.undefinedFD) :=
  encoding_of_lengths rfl rfl rfl
theorem Encoding.cpi (d8 : Byte) : Encoding.Statement (.cpi d8) :=
  encoding_of_lengths rfl rfl rfl
theorem Encoding.rst7 : Encoding.Statement (.rst7) :=
  encoding_of_lengths rfl rfl rfl

end Sys2Proof.Laws
end

