-- ==== Sys2Proof/Laws/Step.lean ====
section
/-! SUPPORT. What a step can do, said once. -/

namespace Sys2Proof.Machine

/-- A step that answers a next state comes from a running machine, and ends the run at the boundary, executes the fetched
instruction, or takes the exception. -/
theorem step_cases {s t : State} (h : step s = .next t) :
    s.status = .running ∧
      ((atImageEnd s = true ∧ t = endAtBoundary s) ∨
       (atImageEnd s = false ∧ Config.implemented (fetchOpcode s) = true ∧ exec (fetchInstr s) s = .next t) ∨
       (atImageEnd s = false ∧ Config.implemented (fetchOpcode s) = false ∧
          t = raiseUnimplemented (fetchOpcode s) s)) := by
  unfold step cycle at h
  split at h
  case h_1 hs =>
    refine ⟨hs, ?_⟩
    split_ifs at h with hEnd hImpl
    · exact .inl ⟨hEnd, (Host.Outcome.next.inj h).symm⟩
    · exact .inr (.inl ⟨by simpa using hEnd, hImpl, h⟩)
    · exact .inr (.inr ⟨by simpa using hEnd, by simpa using hImpl, (Host.Outcome.next.inj h).symm⟩)
  all_goals cases h

/-- A running machine inside its image, with an implemented opcode at `PC`, steps by executing what it fetched. -/
theorem step_of_implemented {s : State} (hs : s.status = .running) (hEnd : atImageEnd s = false)
    (hImpl : Config.implemented (fetchOpcode s) = true) : step s = exec (fetchInstr s) s := by
  simp [step, cycle, hs, hEnd, hImpl]

/-- A running machine at the image boundary ends its run. -/
theorem step_of_atImageEnd {s : State} (hs : s.status = .running) (hEnd : atImageEnd s = true) :
    step s = .next (endAtBoundary s) := by
  simp [step, cycle, hs, hEnd]

/-- A running machine inside its image, with an unimplemented opcode at `PC`, takes the exception. -/
theorem step_of_unimplemented {s : State} (hs : s.status = .running) (hEnd : atImageEnd s = false)
    (hImpl : Config.implemented (fetchOpcode s) = false) : step s = .next (raiseUnimplemented (fetchOpcode s) s) := by
  simp [step, cycle, hs, hEnd, hImpl]

end Sys2Proof.Machine
end

