-- ==== Sys2Proof/Tests/Slice0.lean ====
section
/-! SUPPORT. Tests, each about one step or one word, and a witness for every statement that has hypotheses. Expected results
are the vectors of 95_test_vectors.md, which the vector's name cites, or are read by hand from the rule cited. -/

namespace Sys2Proof.Tests

open Sys2Proof Machine

/-! ## Helpers -/

/-- Whether a step from `s` gives `t`. -/
def stepsTo (s t : State) : Bool :=
  match step s with
  | .next u => decide (u = t)
  | .fault _ => false
  | .refused _ => false

/-- The state the vectors start from: all zero, with `IMAGE_END = 0x10000`. -/
def start : State := { State.reset with imageEnd := 0x10000 }

/-- Whether each word, numbered as the opcode table does, decodes to the instruction beside it. -/
def decodesEach (rows : List (Nat × Nat × Instr)) : Bool :=
  rows.all fun row => decide (decodeTableWord row.1 row.2.1 = some row.2.2)

/-! ## Well-formedness: the one check refuses each undefined value (R7, R90) -/

theorem test_undefined_not_wellFormed :
    ¬ WellFormed .undefined08 ∧ ¬ WellFormed .undefined10 ∧ ¬ WellFormed .undefined18 ∧ ¬ WellFormed .undefined20 ∧
    ¬ WellFormed .undefined28 ∧ ¬ WellFormed .undefined30 ∧ ¬ WellFormed .undefined38 ∧ ¬ WellFormed .undefinedCB ∧
    ¬ WellFormed .undefinedD9 ∧ ¬ WellFormed .undefinedDD ∧ ¬ WellFormed .undefinedED ∧ ¬ WellFormed .undefinedFD := by
  decide

theorem test_hlt_wellFormed : WellFormed .hlt := by decide

theorem test_jmp_wellFormed : WellFormed (.jmp 0xFFFF) := by decide

/-! ## Decoding: every opcode value, its word written from the fields of 30_encoding.md

An operand byte is 0xA5; a 16-bit operand is 0x1234, its low byte first. -/

/-- MOV to B and to C (R81, R82, R89). -/
theorem test_decode_mov_b_c : decodesEach [
    (8, 0b01000000, .movBB), (8, 0b01000001, .movBC), (8, 0b01000010, .movBD), (8, 0b01000011, .movBE),
    (8, 0b01000100, .movBH), (8, 0b01000101, .movBL), (8, 0b01000110, .movBM), (8, 0b01000111, .movBA),
    (8, 0b01001000, .movCB), (8, 0b01001001, .movCC), (8, 0b01001010, .movCD), (8, 0b01001011, .movCE),
    (8, 0b01001100, .movCH), (8, 0b01001101, .movCL), (8, 0b01001110, .movCM), (8, 0b01001111, .movCA)] := by decide

/-- MOV to D and to E (R81, R82, R89). -/
theorem test_decode_mov_d_e : decodesEach [
    (8, 0b01010000, .movDB), (8, 0b01010001, .movDC), (8, 0b01010010, .movDD), (8, 0b01010011, .movDE),
    (8, 0b01010100, .movDH), (8, 0b01010101, .movDL), (8, 0b01010110, .movDM), (8, 0b01010111, .movDA),
    (8, 0b01011000, .movEB), (8, 0b01011001, .movEC), (8, 0b01011010, .movED), (8, 0b01011011, .movEE),
    (8, 0b01011100, .movEH), (8, 0b01011101, .movEL), (8, 0b01011110, .movEM), (8, 0b01011111, .movEA)] := by decide

/-- MOV to H and to L (R81, R82, R89). -/
theorem test_decode_mov_h_l : decodesEach [
    (8, 0b01100000, .movHB), (8, 0b01100001, .movHC), (8, 0b01100010, .movHD), (8, 0b01100011, .movHE),
    (8, 0b01100100, .movHH), (8, 0b01100101, .movHL), (8, 0b01100110, .movHM), (8, 0b01100111, .movHA),
    (8, 0b01101000, .movLB), (8, 0b01101001, .movLC), (8, 0b01101010, .movLD), (8, 0b01101011, .movLE),
    (8, 0b01101100, .movLH), (8, 0b01101101, .movLL), (8, 0b01101110, .movLM), (8, 0b01101111, .movLA)] := by decide

/-- MOV to M and to A, and HLT in the place of MOV M,M (R81, R82, R89). -/
theorem test_decode_mov_m_a : decodesEach [
    (8, 0b01110000, .movMB), (8, 0b01110001, .movMC), (8, 0b01110010, .movMD), (8, 0b01110011, .movME),
    (8, 0b01110100, .movMH), (8, 0b01110101, .movML), (8, 0b01110110, .hlt), (8, 0b01110111, .movMA),
    (8, 0b01111000, .movAB), (8, 0b01111001, .movAC), (8, 0b01111010, .movAD), (8, 0b01111011, .movAE),
    (8, 0b01111100, .movAH), (8, 0b01111101, .movAL), (8, 0b01111110, .movAM), (8, 0b01111111, .movAA)] := by decide

/-- ADD and ADC with each register and M (R85, R82). -/
theorem test_decode_add_adc : decodesEach [
    (8, 0b10000000, .addB), (8, 0b10000001, .addC), (8, 0b10000010, .addD), (8, 0b10000011, .addE),
    (8, 0b10000100, .addH), (8, 0b10000101, .addL), (8, 0b10000110, .addM), (8, 0b10000111, .addA),
    (8, 0b10001000, .adcB), (8, 0b10001001, .adcC), (8, 0b10001010, .adcD), (8, 0b10001011, .adcE),
    (8, 0b10001100, .adcH), (8, 0b10001101, .adcL), (8, 0b10001110, .adcM), (8, 0b10001111, .adcA)] := by decide

/-- SUB and SBB with each register and M (R85, R82). -/
theorem test_decode_sub_sbb : decodesEach [
    (8, 0b10010000, .subB), (8, 0b10010001, .subC), (8, 0b10010010, .subD), (8, 0b10010011, .subE),
    (8, 0b10010100, .subH), (8, 0b10010101, .subL), (8, 0b10010110, .subM), (8, 0b10010111, .subA),
    (8, 0b10011000, .sbbB), (8, 0b10011001, .sbbC), (8, 0b10011010, .sbbD), (8, 0b10011011, .sbbE),
    (8, 0b10011100, .sbbH), (8, 0b10011101, .sbbL), (8, 0b10011110, .sbbM), (8, 0b10011111, .sbbA)] := by decide

/-- ANA and XRA with each register and M (R85, R82). -/
theorem test_decode_ana_xra : decodesEach [
    (8, 0b10100000, .anaB), (8, 0b10100001, .anaC), (8, 0b10100010, .anaD), (8, 0b10100011, .anaE),
    (8, 0b10100100, .anaH), (8, 0b10100101, .anaL), (8, 0b10100110, .anaM), (8, 0b10100111, .anaA),
    (8, 0b10101000, .xraB), (8, 0b10101001, .xraC), (8, 0b10101010, .xraD), (8, 0b10101011, .xraE),
    (8, 0b10101100, .xraH), (8, 0b10101101, .xraL), (8, 0b10101110, .xraM), (8, 0b10101111, .xraA)] := by decide

/-- ORA and CMP with each register and M (R85, R82). -/
theorem test_decode_ora_cmp : decodesEach [
    (8, 0b10110000, .oraB), (8, 0b10110001, .oraC), (8, 0b10110010, .oraD), (8, 0b10110011, .oraE),
    (8, 0b10110100, .oraH), (8, 0b10110101, .oraL), (8, 0b10110110, .oraM), (8, 0b10110111, .oraA),
    (8, 0b10111000, .cmpB), (8, 0b10111001, .cmpC), (8, 0b10111010, .cmpD), (8, 0b10111011, .cmpE),
    (8, 0b10111100, .cmpH), (8, 0b10111101, .cmpL), (8, 0b10111110, .cmpM), (8, 0b10111111, .cmpA)] := by decide

/-- The immediate ALU forms (R85). -/
theorem test_decode_alu_immediate : decodesEach [
    (16, 0b1010010111000110, .adi 0xA5), (16, 0b1010010111001110, .aci 0xA5), (16, 0b1010010111010110, .sui 0xA5),
    (16, 0b1010010111011110, .sbi 0xA5), (16, 0b1010010111100110, .ani 0xA5), (16, 0b1010010111101110, .xri 0xA5),
    (16, 0b1010010111110110, .ori 0xA5), (16, 0b1010010111111110, .cpi 0xA5)] := by decide

/-- MVI (R82, R89). -/
theorem test_decode_mvi : decodesEach [
    (16, 0b1010010100000110, .mviB 0xA5), (16, 0b1010010100001110, .mviC 0xA5), (16, 0b1010010100010110, .mviD 0xA5),
    (16, 0b1010010100011110, .mviE 0xA5), (16, 0b1010010100100110, .mviH 0xA5), (16, 0b1010010100101110, .mviL 0xA5),
    (16, 0b1010010100110110, .mviM 0xA5), (16, 0b1010010100111110, .mviA 0xA5)] := by decide

/-- INR and DCR (R82, R89). -/
theorem test_decode_inr_dcr : decodesEach [
    (8, 0b00000100, .inrB), (8, 0b00001100, .inrC), (8, 0b00010100, .inrD), (8, 0b00011100, .inrE),
    (8, 0b00100100, .inrH), (8, 0b00101100, .inrL), (8, 0b00110100, .inrM), (8, 0b00111100, .inrA),
    (8, 0b00000101, .dcrB), (8, 0b00001101, .dcrC), (8, 0b00010101, .dcrD), (8, 0b00011101, .dcrE),
    (8, 0b00100101, .dcrH), (8, 0b00101101, .dcrL), (8, 0b00110101, .dcrM), (8, 0b00111101, .dcrA)] := by decide

/-- LXI and DAD (R83, R89). -/
theorem test_decode_lxi_dad : decodesEach [
    (24, 0b000100100011010000000001, .lxiB 0x1234), (24, 0b000100100011010000010001, .lxiD 0x1234),
    (24, 0b000100100011010000100001, .lxiH 0x1234), (24, 0b000100100011010000110001, .lxiSp 0x1234),
    (8, 0b00001001, .dadB), (8, 0b00011001, .dadD), (8, 0b00101001, .dadH), (8, 0b00111001, .dadSp)] := by decide

/-- INX and DCX (R83, R89). -/
theorem test_decode_inx_dcx : decodesEach [
    (8, 0b00000011, .inxB), (8, 0b00010011, .inxD), (8, 0b00100011, .inxH), (8, 0b00110011, .inxSp),
    (8, 0b00001011, .dcxB), (8, 0b00011011, .dcxD), (8, 0b00101011, .dcxH), (8, 0b00111011, .dcxSp)] := by decide

/-- STAX, LDAX, SHLD, LHLD, STA and LDA (R89). -/
theorem test_decode_indirect_direct : decodesEach [
    (8, 0b00000010, .staxB), (8, 0b00001010, .ldaxB), (8, 0b00010010, .staxD), (8, 0b00011010, .ldaxD),
    (24, 0b000100100011010000100010, .shld 0x1234), (24, 0b000100100011010000101010, .lhld 0x1234),
    (24, 0b000100100011010000110010, .sta 0x1234), (24, 0b000100100011010000111010, .lda 0x1234)] := by decide

/-- RLC, RRC, RAL, RAR, DAA, CMA, STC and CMC (R89). -/
theorem test_decode_rotates_misc : decodesEach [
    (8, 0b00000111, .rlc), (8, 0b00001111, .rrc), (8, 0b00010111, .ral), (8, 0b00011111, .rar), (8, 0b00100111, .daa),
    (8, 0b00101111, .cma), (8, 0b00110111, .stc), (8, 0b00111111, .cmc)] := by decide

/-- NOP and the undefined values beside it (R89, R90). -/
theorem test_decode_nop_undefined : decodesEach [
    (8, 0b00000000, .nop), (8, 0b00001000, .undefined08), (8, 0b00010000, .undefined10),
    (8, 0b00011000, .undefined18), (8, 0b00100000, .undefined20), (8, 0b00101000, .undefined28),
    (8, 0b00110000, .undefined30), (8, 0b00111000, .undefined38)] := by decide

/-- Rcc (R84, R89). -/
theorem test_decode_conditional_returns : decodesEach [
    (8, 0b11000000, .rnz), (8, 0b11001000, .rz), (8, 0b11010000, .rnc), (8, 0b11011000, .rc), (8, 0b11100000, .rpo),
    (8, 0b11101000, .rpe), (8, 0b11110000, .rp), (8, 0b11111000, .rm)] := by decide

/-- Jcc (R84, R89). -/
theorem test_decode_conditional_jumps : decodesEach [
    (24, 0b000100100011010011000010, .jnz 0x1234), (24, 0b000100100011010011001010, .jz 0x1234),
    (24, 0b000100100011010011010010, .jnc 0x1234), (24, 0b000100100011010011011010, .jc 0x1234),
    (24, 0b000100100011010011100010, .jpo 0x1234), (24, 0b000100100011010011101010, .jpe 0x1234),
    (24, 0b000100100011010011110010, .jp 0x1234), (24, 0b000100100011010011111010, .jm 0x1234)] := by decide

/-- Ccc (R84, R89). -/
theorem test_decode_conditional_calls : decodesEach [
    (24, 0b000100100011010011000100, .cnz 0x1234), (24, 0b000100100011010011001100, .cz 0x1234),
    (24, 0b000100100011010011010100, .cnc 0x1234), (24, 0b000100100011010011011100, .cc 0x1234),
    (24, 0b000100100011010011100100, .cpo 0x1234), (24, 0b000100100011010011101100, .cpe 0x1234),
    (24, 0b000100100011010011110100, .cp 0x1234), (24, 0b000100100011010011111100, .cm 0x1234)] := by decide

/-- RST (R88, R89). -/
theorem test_decode_rst : decodesEach [
    (8, 0b11000111, .rst0), (8, 0b11001111, .rst1), (8, 0b11010111, .rst2), (8, 0b11011111, .rst3),
    (8, 0b11100111, .rst4), (8, 0b11101111, .rst5), (8, 0b11110111, .rst6), (8, 0b11111111, .rst7)] := by decide

/-- POP, RET, PCHL, SPHL and an undefined value (R83, R89, R90). -/
theorem test_decode_pop_ret : decodesEach [
    (8, 0b11000001, .popB), (8, 0b11010001, .popD), (8, 0b11100001, .popH), (8, 0b11110001, .popPsw),
    (8, 0b11001001, .ret), (8, 0b11011001, .undefinedD9), (8, 0b11101001, .pchl), (8, 0b11111001, .sphl)] := by decide

/-- PUSH, CALL and three undefined values (R83, R89, R90). -/
theorem test_decode_push_call : decodesEach [
    (8, 0b11000101, .pushB), (8, 0b11010101, .pushD), (8, 0b11100101, .pushH), (8, 0b11110101, .pushPsw),
    (24, 0b000100100011010011001101, .call 0x1234), (8, 0b11011101, .undefinedDD), (8, 0b11101101, .undefinedED),
    (8, 0b11111101, .undefinedFD)] := by decide

/-- JMP, an undefined value, OUT, IN, XTHL, XCHG, DI and EI (R89, R90). -/
theorem test_decode_jmp_io_exchange : decodesEach [
    (24, 0b000100100011010011000011, .jmp 0x1234), (8, 0b11001011, .undefinedCB),
    (16, 0b1010010111010011, .outPort 0xA5), (16, 0b1010010111011011, .inPort 0xA5), (8, 0b11100011, .xthl),
    (8, 0b11101011, .xchg), (8, 0b11110011, .di), (8, 0b11111011, .ei)] := by decide

/-- Bytes that end too early are rejected by name (R91). -/
theorem test_decode_truncated :
    decode [] = .noOpcodeByte ∧ decode [0x3E] = .missingOperandByte 0x3E ∧
    decode [0xC3, 0x00] = .missingOperandByte 0xC3 := by decide

/-- The encoder puts the low byte first (R87). -/
theorem test_encode_lxi : encode (.lxiSp 0x2400) = [0x31, 0x00, 0x24] := by decide

/-! ## One step of each family: the derived vectors -/

/-- V40-1, and V40-2 to V40-12 with 0x08 again: every undefined value faults and changes nothing else (R114). -/
theorem test_undefined :
    (stepsTo { start with mem := [(0x0000, 0x08)] }
      { start with status := .fault 0x0000 0x08, mem := [(0x0000, 0x08)] } = true) ∧
    [0x08, 0x10, 0x18, 0x20, 0x28, 0x30, 0x38, 0xCB, 0xD9, 0xDD, 0xED, 0xFD].all (fun op =>
      stepsTo { start with a := 0x11, sp := 0x2400, pc := 0x0100, mem := [(0x0100, op)] }
        { start with a := 0x11, sp := 0x2400, pc := 0x0100, status := .fault 0x0100 op, mem := [(0x0100, op)] }) := by
  decide

/-- V40-13 and the second step of V40-14: at or past IMAGE_END the run ends with no fetch (R111). -/
theorem test_boundary :
    stepsTo { start with pc := 0x0100, imageEnd := 0x0100 }
      { start with pc := 0x0100, imageEnd := 0x0100, status := .boundary } ∧
    stepsTo { start with pc := 0x2000, imageEnd := 3, mem := [(0x0000, 0xC3), (0x0002, 0x20)] }
      { start with pc := 0x2000, imageEnd := 3, status := .boundary, mem := [(0x0000, 0xC3), (0x0002, 0x20)] } := by
  decide

/-- V40-15: the immediate byte is read past IMAGE_END, and the next check ends the run (R121). -/
theorem test_trailing_byte :
    stepsTo { start with imageEnd := 1, mem := [(0x0000, 0x3E)] }
      { start with imageEnd := 1, pc := 0x0002, mem := [(0x0000, 0x3E)] } ∧
    stepsTo { start with imageEnd := 1, pc := 0x0002, mem := [(0x0000, 0x3E)] }
      { start with imageEnd := 1, pc := 0x0002, status := .boundary, mem := [(0x0000, 0x3E)] } := by decide

/-- V41-1 (R141). -/
theorem test_mov_b_c :
    stepsTo { start with c := 0x5A, pc := 0x0100, mem := [(0x0100, 0x41)] }
      { start with b := 0x5A, c := 0x5A, pc := 0x0101, mem := [(0x0100, 0x41)] } := by decide

/-- V41-2 (R141). -/
theorem test_mov_a_a :
    stepsTo { start with a := 0x33, pc := 0x0100, mem := [(0x0100, 0x7F)] }
      { start with a := 0x33, pc := 0x0101, mem := [(0x0100, 0x7F)] } := by decide

/-- V41-3 (R142). -/
theorem test_mov_a_m :
    stepsTo { start with h := 0x20, pc := 0x0100, mem := [(0x0100, 0x7E), (0x2000, 0x99)] }
      { start with a := 0x99, h := 0x20, pc := 0x0101, mem := [(0x0100, 0x7E), (0x2000, 0x99)] } := by decide

/-- V41-4 (R143). -/
theorem test_mov_m_a :
    stepsTo { start with a := 0x44, h := 0x20, pc := 0x0100, mem := [(0x0100, 0x77)] }
      { start with a := 0x44, h := 0x20, pc := 0x0101, mem := [(0x0100, 0x77), (0x2000, 0x44)] } := by decide

/-- V41-5 (R143). -/
theorem test_mov_m_h :
    stepsTo { start with h := 0x20, l := 0x10, pc := 0x0100, mem := [(0x0100, 0x74)] }
      { start with h := 0x20, l := 0x10, pc := 0x0101, mem := [(0x0100, 0x74), (0x2010, 0x20)] } := by decide

/-- V41-6 (R144). -/
theorem test_mvi_a :
    stepsTo { start with pc := 0x0100, mem := [(0x0100, 0x3E), (0x0101, 0x05)] }
      { start with a := 0x05, pc := 0x0102, mem := [(0x0100, 0x3E), (0x0101, 0x05)] } := by decide

/-- V41-7 (R145). -/
theorem test_mvi_m :
    stepsTo { start with h := 0x30, pc := 0x0100, mem := [(0x0100, 0x36), (0x0101, 0xA5)] }
      { start with h := 0x30, pc := 0x0102, mem := [(0x0100, 0x36), (0x0101, 0xA5), (0x3000, 0xA5)] } := by decide

/-- V41-8 (R146). -/
theorem test_lxi_sp :
    stepsTo { start with pc := 0x0100, mem := [(0x0100, 0x31), (0x0102, 0x24)] }
      { start with sp := 0x2400, pc := 0x0103, mem := [(0x0100, 0x31), (0x0102, 0x24)] } := by decide

/-- V41-9 (R146). -/
theorem test_lxi_h :
    stepsTo { start with pc := 0x0100, mem := [(0x0100, 0x21), (0x0101, 0x34), (0x0102, 0x12)] }
      { start with h := 0x12, l := 0x34, pc := 0x0103, mem := [(0x0100, 0x21), (0x0101, 0x34), (0x0102, 0x12)] } := by decide

/-- V41-10 (R147). -/
theorem test_lda :
    stepsTo { start with pc := 0x0100, mem := [(0x0100, 0x3A), (0x0101, 0xFF), (0x0102, 0xFF), (0xFFFF, 0x7E)] }
      { start with a := 0x7E, pc := 0x0103, mem := [(0x0100, 0x3A), (0x0101, 0xFF), (0x0102, 0xFF), (0xFFFF, 0x7E)] } := by decide

/-- V41-11 (R148). -/
theorem test_sta :
    stepsTo { start with a := 0xC3, pc := 0x0100, mem := [(0x0100, 0x32), (0x0102, 0x20)] }
      { start with a := 0xC3, pc := 0x0103, mem := [(0x0100, 0x32), (0x0102, 0x20), (0x2000, 0xC3)] } := by decide

/-- V41-12 (R149). -/
theorem test_lhld :
    stepsTo { start with pc := 0x0100,
                         mem := [(0x0000, 0x22), (0x0100, 0x2A), (0x0101, 0xFF), (0x0102, 0xFF), (0xFFFF, 0x11)] }
      { start with h := 0x22, l := 0x11, pc := 0x0103,
                   mem := [(0x0000, 0x22), (0x0100, 0x2A), (0x0101, 0xFF), (0x0102, 0xFF), (0xFFFF, 0x11)] } := by decide

/-- V41-13 (R150). -/
theorem test_shld :
    stepsTo { start with h := 0xAB, l := 0xCD, pc := 0x0100, mem := [(0x0100, 0x22), (0x0101, 0xFF), (0x0102, 0xFF)] }
      { start with h := 0xAB, l := 0xCD, pc := 0x0103,
                   mem := [(0x0000, 0xAB), (0x0100, 0x22), (0x0101, 0xFF), (0x0102, 0xFF), (0xFFFF, 0xCD)] } := by decide

/-- V41-14 (R151). -/
theorem test_ldax_d :
    stepsTo { start with d := 0x12, e := 0x34, pc := 0x0100, mem := [(0x0100, 0x1A), (0x1234, 0x66)] }
      { start with a := 0x66, d := 0x12, e := 0x34, pc := 0x0101, mem := [(0x0100, 0x1A), (0x1234, 0x66)] } := by decide

/-- V41-15 (R152). -/
theorem test_stax_b :
    stepsTo { start with a := 0x77, b := 0x0F, pc := 0x0100, mem := [(0x0100, 0x02)] }
      { start with a := 0x77, b := 0x0F, pc := 0x0101, mem := [(0x0100, 0x02), (0x0F00, 0x77)] } := by decide

/-- V41-16 (R153). -/
theorem test_xchg :
    stepsTo { start with d := 0x12, e := 0x34, h := 0x56, l := 0x78, pc := 0x0100, mem := [(0x0100, 0xEB)] }
      { start with d := 0x56, e := 0x78, h := 0x12, l := 0x34, pc := 0x0101, mem := [(0x0100, 0xEB)] } := by decide

/-- V42-1, V42-2 (R173). -/
theorem test_add_b :
    stepsTo { start with a := 0x05, b := 0x03, pc := 0x0100, mem := [(0x0100, 0x80)] }
      { start with a := 0x08, b := 0x03, pc := 0x0101, mem := [(0x0100, 0x80)] } ∧
    stepsTo { start with a := 0xFF, b := 0x01, pc := 0x0100, mem := [(0x0100, 0x80)] }
      { start with b := 0x01, pc := 0x0101, flags := { Flags.clear with z := true, p := true, cy := true, ac := true },
                   mem := [(0x0100, 0x80)] } := by decide

/-- V42-3 (R173). -/
theorem test_add_a :
    stepsTo { start with a := 0x80, pc := 0x0100, mem := [(0x0100, 0x87)] }
      { start with pc := 0x0101, flags := { Flags.clear with z := true, p := true, cy := true },
                   mem := [(0x0100, 0x87)] } := by decide

/-- V42-4 (R174). -/
theorem test_add_m :
    stepsTo { start with a := 0x0F, h := 0x20, pc := 0x0100, mem := [(0x0100, 0x86), (0x2000, 0x01)] }
      { start with a := 0x10, h := 0x20, pc := 0x0101, flags := { Flags.clear with ac := true },
                   mem := [(0x0100, 0x86), (0x2000, 0x01)] } := by decide

/-- V42-5 (R175). -/
theorem test_adi :
    stepsTo { start with a := 0x14, pc := 0x0100, mem := [(0x0100, 0xC6), (0x0101, 0x42)] }
      { start with a := 0x56, pc := 0x0102, flags := { Flags.clear with p := true },
                   mem := [(0x0100, 0xC6), (0x0101, 0x42)] } := by decide

/-- V42-6 (R176). -/
theorem test_adc_c :
    stepsTo { start with a := 0x3D, c := 0x42, pc := 0x0100, flags := { Flags.clear with cy := true },
                         mem := [(0x0100, 0x89)] }
      { start with a := 0x80, c := 0x42, pc := 0x0101, flags := { Flags.clear with s := true, ac := true },
                   mem := [(0x0100, 0x89)] } := by decide

/-- V42-7 (R176). -/
theorem test_adc_a :
    stepsTo { start with a := 0xFF, pc := 0x0100, flags := { Flags.clear with cy := true }, mem := [(0x0100, 0x8F)] }
      { start with a := 0xFF, pc := 0x0101, flags := { Flags.clear with s := true, p := true, cy := true, ac := true },
                   mem := [(0x0100, 0x8F)] } := by decide

/-- V42-8 (R178). -/
theorem test_aci :
    stepsTo { start with pc := 0x0100, flags := { Flags.clear with cy := true },
                         mem := [(0x0100, 0xCE), (0x0101, 0xFF)] }
      { start with pc := 0x0102, flags := { Flags.clear with z := true, p := true, cy := true, ac := true },
                   mem := [(0x0100, 0xCE), (0x0101, 0xFF)] } := by decide

/-- V42-9 (R179). -/
theorem test_sub_a :
    stepsTo { start with a := 0x3E, pc := 0x0100, flags := { Flags.clear with cy := true }, mem := [(0x0100, 0x97)] }
      { start with pc := 0x0101, flags := { Flags.clear with z := true, p := true, ac := true },
                   mem := [(0x0100, 0x97)] } := by decide

/-- V42-10 (R179). -/
theorem test_sub_b :
    stepsTo { start with b := 0x01, pc := 0x0100, mem := [(0x0100, 0x90)] }
      { start with a := 0xFF, b := 0x01, pc := 0x0101, flags := { Flags.clear with s := true, p := true, cy := true },
                   mem := [(0x0100, 0x90)] } := by decide

/-- V42-11 (R181). -/
theorem test_sui :
    stepsTo { start with pc := 0x0100, mem := [(0x0100, 0xD6), (0x0101, 0x01)] }
      { start with a := 0xFF, pc := 0x0102, flags := { Flags.clear with s := true, p := true, cy := true },
                   mem := [(0x0100, 0xD6), (0x0101, 0x01)] } := by decide

/-- V42-12 (R182). -/
theorem test_sbb_l :
    stepsTo { start with a := 0x04, l := 0x02, pc := 0x0100, flags := { Flags.clear with cy := true },
                         mem := [(0x0100, 0x9D)] }
      { start with a := 0x01, l := 0x02, pc := 0x0101, flags := { Flags.clear with ac := true },
                   mem := [(0x0100, 0x9D)] } := by decide

/-- V42-13 (R184). -/
theorem test_sbi :
    stepsTo { start with pc := 0x0100, flags := { Flags.clear with cy := true },
                         mem := [(0x0100, 0xDE), (0x0101, 0xFF)] }
      { start with pc := 0x0102, flags := { Flags.clear with z := true, p := true, cy := true },
                   mem := [(0x0100, 0xDE), (0x0101, 0xFF)] } := by decide

/-- V42-14 (R185). -/
theorem test_cmp_e :
    stepsTo { start with a := 0x02, e := 0x05, pc := 0x0100, mem := [(0x0100, 0xBB)] }
      { start with a := 0x02, e := 0x05, pc := 0x0101, flags := { Flags.clear with s := true, cy := true },
                   mem := [(0x0100, 0xBB)] } := by decide

/-- V42-15 (R185). -/
theorem test_cmp_b :
    stepsTo { start with a := 0x42, b := 0x42, pc := 0x0100, mem := [(0x0100, 0xB8)] }
      { start with a := 0x42, b := 0x42, pc := 0x0101, flags := { Flags.clear with z := true, p := true, ac := true },
                   mem := [(0x0100, 0xB8)] } := by decide

/-- V42-16 (R187). -/
theorem test_cpi :
    stepsTo { start with a := 0x4A, pc := 0x0100, mem := [(0x0100, 0xFE), (0x0101, 0x40)] }
      { start with a := 0x4A, pc := 0x0102, flags := { Flags.clear with p := true, ac := true },
                   mem := [(0x0100, 0xFE), (0x0101, 0x40)] } := by decide

/-- V42-17 (R188). -/
theorem test_inr_a :
    stepsTo { start with a := 0xFF, pc := 0x0100, mem := [(0x0100, 0x3C)] }
      { start with pc := 0x0101, flags := { Flags.clear with z := true, p := true, ac := true },
                   mem := [(0x0100, 0x3C)] } := by decide

/-- V42-18 (R188). -/
theorem test_inr_b :
    stepsTo { start with b := 0x0F, pc := 0x0100, flags := { Flags.clear with cy := true }, mem := [(0x0100, 0x04)] }
      { start with b := 0x10, pc := 0x0101, flags := { Flags.clear with cy := true, ac := true },
                   mem := [(0x0100, 0x04)] } := by decide

/-- V42-19 (R189). -/
theorem test_inr_m :
    stepsTo { start with h := 0x20, pc := 0x0100, mem := [(0x0100, 0x34), (0x2000, 0xFF)] }
      { start with h := 0x20, pc := 0x0101, flags := { Flags.clear with z := true, p := true, ac := true },
                   mem := [(0x0100, 0x34)] } := by decide

/-- V42-20 (R190). -/
theorem test_dcr_a :
    stepsTo { start with pc := 0x0100, mem := [(0x0100, 0x3D)] }
      { start with a := 0xFF, pc := 0x0101, flags := { Flags.clear with s := true, p := true },
                   mem := [(0x0100, 0x3D)] } := by decide

/-- V42-21 (R190). -/
theorem test_dcr_c :
    stepsTo { start with c := 0x01, pc := 0x0100, flags := { Flags.clear with cy := true }, mem := [(0x0100, 0x0D)] }
      { start with pc := 0x0101, flags := { Flags.clear with z := true, p := true, cy := true, ac := true },
                   mem := [(0x0100, 0x0D)] } := by decide

/-- V42-22 (R191). -/
theorem test_dcr_m :
    stepsTo { start with h := 0x20, pc := 0x0100, mem := [(0x0100, 0x35), (0x2000, 0x10)] }
      { start with h := 0x20, pc := 0x0101, flags := { Flags.clear with p := true },
                   mem := [(0x0100, 0x35), (0x2000, 0x0F)] } := by decide

/-- V42-23 (R192). -/
theorem test_inx_b :
    stepsTo { start with c := 0xFF, pc := 0x0100, mem := [(0x0100, 0x03)] }
      { start with b := 0x01, pc := 0x0101, mem := [(0x0100, 0x03)] } := by decide

/-- V42-24 (R192). -/
theorem test_inx_sp :
    stepsTo { start with sp := 0xFFFF, pc := 0x0100, mem := [(0x0100, 0x33)] }
      { start with pc := 0x0101, mem := [(0x0100, 0x33)] } := by decide

/-- V42-25 (R193). -/
theorem test_dcx_b :
    stepsTo { start with pc := 0x0100, mem := [(0x0100, 0x0B)] }
      { start with b := 0xFF, c := 0xFF, pc := 0x0101, mem := [(0x0100, 0x0B)] } := by decide

/-- V42-26 (R193). -/
theorem test_dcx_h :
    stepsTo { start with l := 0x01, pc := 0x0100, mem := [(0x0100, 0x2B)] }
      { start with pc := 0x0101, mem := [(0x0100, 0x2B)] } := by decide

/-- V42-27 (R194). -/
theorem test_dad_b :
    stepsTo { start with c := 0x01, h := 0xFF, l := 0xFF, pc := 0x0100, mem := [(0x0100, 0x09)] }
      { start with c := 0x01, pc := 0x0101, flags := { Flags.clear with cy := true }, mem := [(0x0100, 0x09)] } := by decide

/-- V42-28 (R194). -/
theorem test_dad_h :
    stepsTo { start with h := 0x80, l := 0x01, pc := 0x0100, mem := [(0x0100, 0x29)] }
      { start with l := 0x02, pc := 0x0101, flags := { Flags.clear with cy := true }, mem := [(0x0100, 0x29)] } := by decide

/-- V42-29 (R194). -/
theorem test_dad_sp :
    stepsTo { start with l := 0x10, sp := 0x2400, pc := 0x0100, flags := { Flags.clear with cy := true },
                         mem := [(0x0100, 0x39)] }
      { start with h := 0x24, l := 0x10, sp := 0x2400, pc := 0x0101, mem := [(0x0100, 0x39)] } := by decide

/-- V42-30, V42-31, V42-32, V42-33 (R195). -/
theorem test_daa :
    stepsTo { start with a := 0x9B, pc := 0x0100, mem := [(0x0100, 0x27)] }
      { start with a := 0x01, pc := 0x0101, flags := { Flags.clear with cy := true, ac := true },
                   mem := [(0x0100, 0x27)] } ∧
    stepsTo { start with a := 0x83, pc := 0x0100, flags := { Flags.clear with ac := true }, mem := [(0x0100, 0x27)] }
      { start with a := 0x89, pc := 0x0101, flags := { Flags.clear with s := true }, mem := [(0x0100, 0x27)] } ∧
    stepsTo { start with a := 0x12, pc := 0x0100, flags := { Flags.clear with cy := true }, mem := [(0x0100, 0x27)] }
      { start with a := 0x72, pc := 0x0101, flags := { Flags.clear with p := true, cy := true },
                   mem := [(0x0100, 0x27)] } ∧
    stepsTo { start with a := 0x9A, pc := 0x0100, mem := [(0x0100, 0x27)] }
      { start with pc := 0x0101, flags := { Flags.clear with z := true, p := true, cy := true, ac := true },
                   mem := [(0x0100, 0x27)] } := by decide

/-- V43-1 (R231). -/
theorem test_ana_b :
    stepsTo { start with a := 0xFC, b := 0x0F, pc := 0x0100, flags := { Flags.clear with cy := true },
                         mem := [(0x0100, 0xA0)] }
      { start with a := 0x0C, b := 0x0F, pc := 0x0101, flags := { Flags.clear with p := true, ac := true },
                   mem := [(0x0100, 0xA0)] } := by decide

/-- V43-2 (R231). -/
theorem test_ana_a :
    stepsTo { start with a := 0x08, pc := 0x0100, flags := { Flags.clear with cy := true }, mem := [(0x0100, 0xA7)] }
      { start with a := 0x08, pc := 0x0101, flags := { Flags.clear with ac := true }, mem := [(0x0100, 0xA7)] } := by decide

/-- V43-3 (R232). -/
theorem test_ana_m :
    stepsTo { start with a := 0xF0, h := 0x20, pc := 0x0100, mem := [(0x0100, 0xA6), (0x2000, 0x3C)] }
      { start with a := 0x30, h := 0x20, pc := 0x0101, flags := { Flags.clear with p := true, ac := true },
                   mem := [(0x0100, 0xA6), (0x2000, 0x3C)] } := by decide

/-- V43-4 (R233). -/
theorem test_ani :
    stepsTo { start with a := 0x3A, pc := 0x0100, mem := [(0x0100, 0xE6), (0x0101, 0x0F)] }
      { start with a := 0x0A, pc := 0x0102, flags := { Flags.clear with p := true, ac := true },
                   mem := [(0x0100, 0xE6), (0x0101, 0x0F)] } := by decide

/-- V43-5 (R234). -/
theorem test_xra_a :
    stepsTo { start with a := 0x5C, pc := 0x0100, flags := { Flags.clear with cy := true, ac := true },
                         mem := [(0x0100, 0xAF)] }
      { start with pc := 0x0101, flags := { Flags.clear with z := true, p := true }, mem := [(0x0100, 0xAF)] } := by decide

/-- V43-6 (R236). -/
theorem test_xri :
    stepsTo { start with a := 0x0F, pc := 0x0100, mem := [(0x0100, 0xEE), (0x0101, 0xFF)] }
      { start with a := 0xF0, pc := 0x0102, flags := { Flags.clear with s := true, p := true },
                   mem := [(0x0100, 0xEE), (0x0101, 0xFF)] } := by decide

/-- V43-7 (R237). -/
theorem test_ora_c :
    stepsTo { start with a := 0x33, c := 0x0F, pc := 0x0100, flags := { Flags.clear with cy := true },
                         mem := [(0x0100, 0xB1)] }
      { start with a := 0x3F, c := 0x0F, pc := 0x0101, flags := { Flags.clear with p := true },
                   mem := [(0x0100, 0xB1)] } := by decide

/-- V43-8 (R239). -/
theorem test_ori :
    stepsTo { start with a := 0x01, pc := 0x0100, mem := [(0x0100, 0xF6), (0x0101, 0x80)] }
      { start with a := 0x81, pc := 0x0102, flags := { Flags.clear with s := true, p := true },
                   mem := [(0x0100, 0xF6), (0x0101, 0x80)] } := by decide

/-- V43-9 (R240). -/
theorem test_rlc :
    stepsTo { start with a := 0xF2, pc := 0x0100, mem := [(0x0100, 0x07)] }
      { start with a := 0xE5, pc := 0x0101, flags := { Flags.clear with cy := true }, mem := [(0x0100, 0x07)] } := by decide

/-- V43-10 (R241). -/
theorem test_rrc :
    stepsTo { start with a := 0x01, pc := 0x0100, flags := { Flags.clear with z := true }, mem := [(0x0100, 0x0F)] }
      { start with a := 0x80, pc := 0x0101, flags := { Flags.clear with z := true, cy := true },
                   mem := [(0x0100, 0x0F)] } := by decide

/-- V43-11 (R242). -/
theorem test_ral :
    stepsTo { start with a := 0xB5, pc := 0x0100, mem := [(0x0100, 0x17)] }
      { start with a := 0x6A, pc := 0x0101, flags := { Flags.clear with cy := true }, mem := [(0x0100, 0x17)] } := by decide

/-- V43-12 (R243). -/
theorem test_rar :
    stepsTo { start with a := 0x6A, pc := 0x0100, flags := { Flags.clear with cy := true }, mem := [(0x0100, 0x1F)] }
      { start with a := 0xB5, pc := 0x0101, mem := [(0x0100, 0x1F)] } := by decide

/-- V43-13 (R244). -/
theorem test_cma :
    stepsTo { start with a := 0x51, pc := 0x0100, mem := [(0x0100, 0x2F)] }
      { start with a := 0xAE, pc := 0x0101, mem := [(0x0100, 0x2F)] } := by decide

/-- V43-14 (R245). -/
theorem test_cmc :
    stepsTo { start with pc := 0x0100, flags := { Flags.clear with cy := true }, mem := [(0x0100, 0x3F)] }
      { start with pc := 0x0101, mem := [(0x0100, 0x3F)] } := by decide

/-- V43-15 (R246). -/
theorem test_stc :
    stepsTo { start with pc := 0x0100, mem := [(0x0100, 0x37)] }
      { start with pc := 0x0101, flags := { Flags.clear with cy := true }, mem := [(0x0100, 0x37)] } := by decide

/-- V44-1, V44-19 (R261). -/
theorem test_jmp :
    stepsTo { start with pc := 0x0100, mem := [(0x0100, 0xC3), (0x0102, 0x3E)] }
      { start with pc := 0x3E00, mem := [(0x0100, 0xC3), (0x0102, 0x3E)] } ∧
    stepsTo { start with pc := 0xFFFE, mem := [(0x0000, 0x12), (0xFFFE, 0xC3), (0xFFFF, 0x34)] }
      { start with pc := 0x1234, mem := [(0x0000, 0x12), (0xFFFE, 0xC3), (0xFFFF, 0x34)] } := by decide

/-- V44-2, V44-3 (R262). -/
theorem test_jnz :
    stepsTo { start with pc := 0x0100, mem := [(0x0100, 0xC2), (0x0102, 0x02)] }
      { start with pc := 0x0200, mem := [(0x0100, 0xC2), (0x0102, 0x02)] } ∧
    stepsTo { start with pc := 0x0100, flags := { Flags.clear with z := true },
                         mem := [(0x0100, 0xC2), (0x0102, 0x02)] }
      { start with pc := 0x0103, flags := { Flags.clear with z := true }, mem := [(0x0100, 0xC2), (0x0102, 0x02)] } := by decide

/-- V44-4, V44-5 (R263). -/
theorem test_jz :
    stepsTo { start with pc := 0x0100, flags := { Flags.clear with z := true },
                         mem := [(0x0100, 0xCA), (0x0102, 0x02)] }
      { start with pc := 0x0200, flags := { Flags.clear with z := true }, mem := [(0x0100, 0xCA), (0x0102, 0x02)] } ∧
    stepsTo { start with pc := 0x0100, mem := [(0x0100, 0xCA), (0x0102, 0x02)] }
      { start with pc := 0x0103, mem := [(0x0100, 0xCA), (0x0102, 0x02)] } := by decide

/-- V44-6, V44-7 (R264). -/
theorem test_jnc :
    stepsTo { start with pc := 0x0100, mem := [(0x0100, 0xD2), (0x0102, 0x02)] }
      { start with pc := 0x0200, mem := [(0x0100, 0xD2), (0x0102, 0x02)] } ∧
    stepsTo { start with pc := 0x0100, flags := { Flags.clear with cy := true },
                         mem := [(0x0100, 0xD2), (0x0102, 0x02)] }
      { start with pc := 0x0103, flags := { Flags.clear with cy := true }, mem := [(0x0100, 0xD2), (0x0102, 0x02)] } := by decide

/-- V44-8, V44-9 (R265). -/
theorem test_jc :
    stepsTo { start with pc := 0x0100, flags := { Flags.clear with cy := true },
                         mem := [(0x0100, 0xDA), (0x0102, 0x02)] }
      { start with pc := 0x0200, flags := { Flags.clear with cy := true }, mem := [(0x0100, 0xDA), (0x0102, 0x02)] } ∧
    stepsTo { start with pc := 0x0100, mem := [(0x0100, 0xDA), (0x0102, 0x02)] }
      { start with pc := 0x0103, mem := [(0x0100, 0xDA), (0x0102, 0x02)] } := by decide

/-- V44-10, V44-11 (R266). -/
theorem test_jpo :
    stepsTo { start with pc := 0x0100, mem := [(0x0100, 0xE2), (0x0102, 0x02)] }
      { start with pc := 0x0200, mem := [(0x0100, 0xE2), (0x0102, 0x02)] } ∧
    stepsTo { start with pc := 0x0100, flags := { Flags.clear with p := true },
                         mem := [(0x0100, 0xE2), (0x0102, 0x02)] }
      { start with pc := 0x0103, flags := { Flags.clear with p := true }, mem := [(0x0100, 0xE2), (0x0102, 0x02)] } := by decide

/-- V44-12, V44-13 (R267). -/
theorem test_jpe :
    stepsTo { start with pc := 0x0100, flags := { Flags.clear with p := true },
                         mem := [(0x0100, 0xEA), (0x0102, 0x02)] }
      { start with pc := 0x0200, flags := { Flags.clear with p := true }, mem := [(0x0100, 0xEA), (0x0102, 0x02)] } ∧
    stepsTo { start with pc := 0x0100, mem := [(0x0100, 0xEA), (0x0102, 0x02)] }
      { start with pc := 0x0103, mem := [(0x0100, 0xEA), (0x0102, 0x02)] } := by decide

/-- V44-14, V44-15 (R268). -/
theorem test_jp :
    stepsTo { start with pc := 0x0100, mem := [(0x0100, 0xF2), (0x0102, 0x02)] }
      { start with pc := 0x0200, mem := [(0x0100, 0xF2), (0x0102, 0x02)] } ∧
    stepsTo { start with pc := 0x0100, flags := { Flags.clear with s := true },
                         mem := [(0x0100, 0xF2), (0x0102, 0x02)] }
      { start with pc := 0x0103, flags := { Flags.clear with s := true }, mem := [(0x0100, 0xF2), (0x0102, 0x02)] } := by decide

/-- V44-16, V44-17 (R269). -/
theorem test_jm :
    stepsTo { start with pc := 0x0100, flags := { Flags.clear with s := true },
                         mem := [(0x0100, 0xFA), (0x0102, 0x02)] }
      { start with pc := 0x0200, flags := { Flags.clear with s := true }, mem := [(0x0100, 0xFA), (0x0102, 0x02)] } ∧
    stepsTo { start with pc := 0x0100, mem := [(0x0100, 0xFA), (0x0102, 0x02)] }
      { start with pc := 0x0103, mem := [(0x0100, 0xFA), (0x0102, 0x02)] } := by decide

/-- V44-18 (R270). -/
theorem test_pchl :
    stepsTo { start with h := 0x41, l := 0x3E, pc := 0x0100, mem := [(0x0100, 0xE9)] }
      { start with h := 0x41, l := 0x3E, pc := 0x413E, mem := [(0x0100, 0xE9)] } := by decide

/-- V45-1, V45-2 (R292). -/
theorem test_call :
    stepsTo { start with sp := 0x2400, pc := 0x0100, mem := [(0x0100, 0xCD), (0x0102, 0x02)] }
      { start with sp := 0x23FE, pc := 0x0200, mem := [(0x0100, 0xCD), (0x0102, 0x02), (0x23FE, 0x03), (0x23FF, 0x01)] } ∧
    stepsTo { start with pc := 0x0100, mem := [(0x0100, 0xCD), (0x0102, 0x02)] }
      { start with sp := 0xFFFE, pc := 0x0200, mem := [(0x0100, 0xCD), (0x0102, 0x02), (0xFFFE, 0x03), (0xFFFF, 0x01)] } := by decide

/-- V45-3, V45-4 (R301). -/
theorem test_ret :
    stepsTo { start with sp := 0x23FE, pc := 0x0200, mem := [(0x0200, 0xC9), (0x23FE, 0x03), (0x23FF, 0x01)] }
      { start with sp := 0x2400, pc := 0x0103, mem := [(0x0200, 0xC9), (0x23FE, 0x03), (0x23FF, 0x01)] } ∧
    stepsTo { start with sp := 0xFFFF, pc := 0x0200, mem := [(0x0000, 0x12), (0x0200, 0xC9), (0xFFFF, 0x34)] }
      { start with sp := 0x0001, pc := 0x1234, mem := [(0x0000, 0x12), (0x0200, 0xC9), (0xFFFF, 0x34)] } := by decide

/-- V45-5, V45-6 (R294). -/
theorem test_cz :
    stepsTo { start with sp := 0x2400, pc := 0x0100, flags := { Flags.clear with z := true },
                         mem := [(0x0100, 0xCC), (0x0102, 0x02)] }
      { start with sp := 0x23FE, pc := 0x0200, flags := { Flags.clear with z := true },
                   mem := [(0x0100, 0xCC), (0x0102, 0x02), (0x23FE, 0x03), (0x23FF, 0x01)] } ∧
    stepsTo { start with sp := 0x2400, pc := 0x0100, mem := [(0x0100, 0xCC), (0x0102, 0x02)] }
      { start with sp := 0x2400, pc := 0x0103, mem := [(0x0100, 0xCC), (0x0102, 0x02)] } := by decide

/-- V45-7 (R300). -/
theorem test_cm :
    stepsTo { start with sp := 0x2400, pc := 0x0100, flags := { Flags.clear with s := true },
                         mem := [(0x0100, 0xFC), (0x0102, 0x02)] }
      { start with sp := 0x23FE, pc := 0x0200, flags := { Flags.clear with s := true },
                   mem := [(0x0100, 0xFC), (0x0102, 0x02), (0x23FE, 0x03), (0x23FF, 0x01)] } := by decide

/-- V45-8 (R297). -/
theorem test_cpo :
    stepsTo { start with sp := 0x2400, pc := 0x0100, flags := { Flags.clear with p := true },
                         mem := [(0x0100, 0xE4), (0x0102, 0x02)] }
      { start with sp := 0x2400, pc := 0x0103, flags := { Flags.clear with p := true },
                   mem := [(0x0100, 0xE4), (0x0102, 0x02)] } := by decide

/-- V45-9 (R304). -/
theorem test_rnc :
    stepsTo { start with sp := 0x23FE, pc := 0x0200, mem := [(0x0200, 0xD0), (0x23FE, 0x03), (0x23FF, 0x01)] }
      { start with sp := 0x2400, pc := 0x0103, mem := [(0x0200, 0xD0), (0x23FE, 0x03), (0x23FF, 0x01)] } := by decide

/-- V45-10 (R305). -/
theorem test_rc :
    stepsTo { start with sp := 0x23FE, pc := 0x0200, mem := [(0x0200, 0xD8), (0x23FE, 0x03), (0x23FF, 0x01)] }
      { start with sp := 0x23FE, pc := 0x0201, mem := [(0x0200, 0xD8), (0x23FE, 0x03), (0x23FF, 0x01)] } := by decide

/-- V45-11 (R308). -/
theorem test_rp :
    stepsTo { start with sp := 0x23FE, pc := 0x0200, mem := [(0x0200, 0xF0), (0x23FE, 0x03), (0x23FF, 0x01)] }
      { start with sp := 0x2400, pc := 0x0103, mem := [(0x0200, 0xF0), (0x23FE, 0x03), (0x23FF, 0x01)] } := by decide

/-- V45-12 (R310). -/
theorem test_rst_7 :
    stepsTo { start with sp := 0x2400, pc := 0x0100, mem := [(0x0100, 0xFF)] }
      { start with sp := 0x23FE, pc := 0x0038, mem := [(0x0100, 0xFF), (0x23FE, 0x01), (0x23FF, 0x01)] } := by decide

/-- V45-13 (R310). -/
theorem test_rst_0 :
    stepsTo { start with sp := 0x2400, pc := 0x1234, mem := [(0x1234, 0xC7)] }
      { start with sp := 0x23FE, pc := 0x0000, mem := [(0x1234, 0xC7), (0x23FE, 0x35), (0x23FF, 0x12)] } := by decide

/-- V46-1 (R331). -/
theorem test_push_b :
    stepsTo { start with b := 0x12, c := 0x34, sp := 0x2400, pc := 0x0100, mem := [(0x0100, 0xC5)] }
      { start with b := 0x12, c := 0x34, sp := 0x23FE, pc := 0x0101,
                   mem := [(0x0100, 0xC5), (0x23FE, 0x34), (0x23FF, 0x12)] } := by decide

/-- V46-2 (R331). -/
theorem test_push_h :
    stepsTo { start with h := 0xAA, l := 0xBB, pc := 0x0100, mem := [(0x0100, 0xE5)] }
      { start with h := 0xAA, l := 0xBB, sp := 0xFFFE, pc := 0x0101,
                   mem := [(0x0100, 0xE5), (0xFFFE, 0xBB), (0xFFFF, 0xAA)] } := by decide

/-- V46-3, V46-4 (R332). -/
theorem test_push_psw :
    stepsTo { start with a := 0x42, sp := 0x2400, pc := 0x0100,
                         flags := { Flags.clear with z := true, p := true, cy := true }, mem := [(0x0100, 0xF5)] }
      { start with a := 0x42, sp := 0x23FE, pc := 0x0101,
                   flags := { Flags.clear with z := true, p := true, cy := true },
                   mem := [(0x0100, 0xF5), (0x23FE, 0x0D), (0x23FF, 0x42)] } ∧
    stepsTo { start with sp := 0x2400, pc := 0x0100,
                         flags := { Flags.clear with z := true, s := true, p := true, cy := true, ac := true },
                         mem := [(0x0100, 0xF5)] }
      { start with sp := 0x23FE, pc := 0x0101,
                   flags := { Flags.clear with z := true, s := true, p := true, cy := true, ac := true },
                   mem := [(0x0100, 0xF5), (0x23FE, 0x1F)] } := by decide

/-- V46-5 (R333). -/
theorem test_pop_h :
    stepsTo { start with sp := 0x23FE, pc := 0x0100, mem := [(0x0100, 0xE1), (0x23FE, 0x34), (0x23FF, 0x12)] }
      { start with h := 0x12, l := 0x34, sp := 0x2400, pc := 0x0101,
                   mem := [(0x0100, 0xE1), (0x23FE, 0x34), (0x23FF, 0x12)] } := by decide

/-- V46-6 (R333). -/
theorem test_pop_d :
    stepsTo { start with sp := 0xFFFF, pc := 0x0100, mem := [(0x0000, 0x56), (0x0100, 0xD1), (0xFFFF, 0x78)] }
      { start with d := 0x56, e := 0x78, sp := 0x0001, pc := 0x0101,
                   mem := [(0x0000, 0x56), (0x0100, 0xD1), (0xFFFF, 0x78)] } := by decide

/-- V46-7, V46-8 (R334). -/
theorem test_pop_psw :
    stepsTo { start with sp := 0x23FE, pc := 0x0100, mem := [(0x0100, 0xF1), (0x23FE, 0x02), (0x23FF, 0x99)] }
      { start with a := 0x99, sp := 0x2400, pc := 0x0101, flags := { Flags.clear with s := true },
                   mem := [(0x0100, 0xF1), (0x23FE, 0x02), (0x23FF, 0x99)] } ∧
    stepsTo { start with sp := 0x23FE, pc := 0x0100, mem := [(0x0100, 0xF1), (0x23FE, 0xFF), (0x23FF, 0x01)] }
      { start with a := 0x01, sp := 0x2400, pc := 0x0101,
                   flags := { Flags.clear with z := true, s := true, p := true, cy := true, ac := true },
                   mem := [(0x0100, 0xF1), (0x23FE, 0xFF), (0x23FF, 0x01)] } := by decide

/-- V46-9 (R335). -/
theorem test_xthl :
    stepsTo { start with h := 0x0B, l := 0x3C, sp := 0x10AD, pc := 0x0100,
                         mem := [(0x0100, 0xE3), (0x10AD, 0xF0), (0x10AE, 0x0D)] }
      { start with h := 0x0D, l := 0xF0, sp := 0x10AD, pc := 0x0101,
                   mem := [(0x0100, 0xE3), (0x10AD, 0x3C), (0x10AE, 0x0B)] } := by decide

/-- V46-10 (R336). -/
theorem test_sphl :
    stepsTo { start with h := 0x50, l := 0x6C, pc := 0x0100, mem := [(0x0100, 0xF9)] }
      { start with h := 0x50, l := 0x6C, sp := 0x506C, pc := 0x0101, mem := [(0x0100, 0xF9)] } := by decide

/-- V47-1 (R350). -/
theorem test_ei :
    stepsTo { start with pc := 0x0100, mem := [(0x0100, 0xFB)] }
      { start with pc := 0x0101, inte := true, mem := [(0x0100, 0xFB)] } := by decide

/-- V47-2 (R351). -/
theorem test_di :
    stepsTo { start with pc := 0x0100, inte := true, mem := [(0x0100, 0xF3)] }
      { start with pc := 0x0101, mem := [(0x0100, 0xF3)] } := by decide

/-- V47-3 (R352). -/
theorem test_nop :
    stepsTo { start with pc := 0x0100, mem := [] }
      { start with pc := 0x0101, mem := [] } := by decide

/-- V47-4 (R353). -/
theorem test_hlt :
    stepsTo { start with pc := 0x0105, mem := [(0x0105, 0x76)] }
      { start with pc := 0x0106, status := .halted, mem := [(0x0105, 0x76)] } := by decide

/-- V47-6 (R355). -/
theorem test_out :
    stepsTo { start with a := 0x12, pc := 0x0100, mem := [(0x0100, 0xD3), (0x0101, 0x10)] }
      { start with a := 0x12, pc := 0x0102, mem := [(0x0100, 0xD3), (0x0101, 0x10)] } := by decide

/-- V47-5: IN writes the next draw for its port to A, whatever that draw is (R354). -/
theorem test_in :
    step { start with pc := 0x0100, mem := [(0x0100, 0xDB), (0x0101, 0x01)] } =
      .next { start with a := Config.inValue 0 0x01, pc := 0x0102, mem := [(0x0100, 0xDB), (0x0101, 0x01)],
                         inDraws := 1 } := rfl

/-- A word placed for the fetch runs as the first instruction after reset. -/
theorem test_withFetchWord :
    stepsTo (State.reset.withFetchWord 8 0x76)
      { State.reset with pc := 1, status := .halted, mem := [(0x0000, 0x76)], imageEnd := 3 } ∧
    stepsTo (State.reset.withFetchWord 24 0x1234C3)
      { State.reset with pc := 0x1234, mem := [(0x0000, 0xC3), (0x0001, 0x34), (0x0002, 0x12)], imageEnd := 3 } ∧
    stepsTo (State.reset.withFetchWord 8 0x08)
      { State.reset with status := .fault 0x0000 0x08, mem := [(0x0000, 0x08)], imageEnd := 3 } := by decide

/-- The image of program P1 as launched, and the first step of its run (95_test_vectors.md P1). -/
theorem test_launch_p1 :
    launch 0 [0x3E, 0x05, 0x06, 0x03, 0x80] = .next { State.reset with
      mem := [(0, 0x3E), (1, 0x05), (2, 0x06), (3, 0x03), (4, 0x80)], imageEnd := 5 } ∧
    stepsTo { State.reset with mem := [(0, 0x3E), (1, 0x05), (2, 0x06), (3, 0x03), (4, 0x80)], imageEnd := 5 }
      { State.reset with a := 5, pc := 2, mem := [(0, 0x3E), (1, 0x05), (2, 0x06), (3, 0x03), (4, 0x80)],
                         imageEnd := 5 } := ⟨rfl, by decide⟩

/-- Writing 0x00, what an unlisted byte reads as, removes the entry. -/
theorem test_memory_write :
    Memory.write [(1, 0x11), (3, 0x33)] 2 0x22 = [(1, 0x11), (2, 0x22), (3, 0x33)] ∧
    Memory.write [(1, 0x11), (3, 0x33)] 3 0x00 = [(1, 0x11)] ∧
    Memory.wf [(3, 0x33), (1, 0x11)] = false ∧ Memory.wf [(1, 0x00)] = false ∧ Memory.wf [(0x10000, 0x11)] = false := by
  decide

/-! ## Witnesses: a state and operands that meet each statement's hypotheses, clause by clause -/

theorem witness_EncodeOfDecode : decode [0xC3, 0x34, 0x12, 0x99] = .ok (.jmp 0x1234) [0x99] := by decide

theorem witness_UndefinedOpcodesAreTheTwelve :
    ((0x08, .undefined08) : Byte × Instr) ∈ Instr.undefinedRows ∧
    ((0xFD, .undefinedFD) : Byte × Instr) ∈ Instr.undefinedRows := by decide

/-- Two memories built by writes in different orders, and the address above the last entry reads 0x00 in both. -/
theorem witness_MemoryFormIsUnique :
    Memory.wf (Memory.write (Memory.write [] 0xFFFF 1) 0 2) = true ∧
    Memory.wf (Memory.write (Memory.write [] 0 2) 0xFFFF 1) = true ∧
    ∀ a : Word, Memory.read (Memory.write (Memory.write [] 0xFFFF 1) 0 2) a =
      Memory.read (Memory.write (Memory.write [] 0 2) 0xFFFF 1) a := by
  have h : Memory.write (Memory.write [] 0xFFFF 1) 0 2 = Memory.write (Memory.write [] 0 2) 0xFFFF 1 := by decide
  exact ⟨by decide, by decide, fun a => by rw [h]⟩

/-- An image that reaches the last address: its last byte is at 0xFFFF, and below it and at 0x0000 memory is 0x00. -/
theorem witness_LaunchLoadsImage :
    ∃ t, launch 0xFFFE [0x11, 0x22] = .next t ∧ readMem 0xFFFE t = 0x11 ∧ readMem 0xFFFF t = 0x22 ∧
      readMem 0xFFFD t = 0x00 ∧ readMem 0x0000 t = 0x00 := ⟨_, rfl, by decide⟩

/-- The address just past an image lies in the second clause. -/
theorem witness_LaunchLoadsImage_past : ∃ t, launch 0x0100 [0x11] = .next t ∧ readMem 0x0101 t = 0x00 := ⟨_, rfl, by decide⟩

/-- The largest image that fits and the smallest that does not. -/
theorem witness_LaunchStartsAtEntryOrIsRefused :
    (0xFFFE#16).toNat + [0x11#8, 0x22].length ≤ 0x10000 ∧ 0x10000 < (0xFFFE#16).toNat + [0x11#8, 0x22, 0x33].length ∧
    launch 0xFFFE [0x11, 0x22, 0x33] = .refused .imageDoesNotFit := ⟨by decide, by decide, rfl⟩

/-- The last address of an image, with its operand bytes read past it. -/
theorem witness_StepRunsDecodedInstruction :
    let s : State := { start with pc := 0x0004, imageEnd := 5, mem := [(4, 0xC3), (5, 0x34), (6, 0x12)] }
    s.status = .running ∧ s.pc.toNat < s.imageEnd ∧ decode (bytesAtPc s) = .ok (.jmp 0x1234) [] ∧
      WellFormed (.jmp 0x1234) := by decide

/-- `PC = IMAGE_END` and `PC = IMAGE_END - 1`. -/
theorem witness_BoundaryCheckEndsTheRun :
    ({ start with pc := 5, imageEnd := 5 } : State).imageEnd ≤ (5#16).toNat ∧
    (4#16).toNat < ({ start with pc := 4, imageEnd := 5 } : State).imageEnd ∧ start.status = .running := by decide

theorem witness_UnimplementedOpcodeEndsTheRun :
    let s : State := { start with pc := 0xFFFF, mem := [(0xFFFF, 0xFD)] }
    ((0xFD, .undefinedFD) : Byte × Instr) ∈ Instr.undefinedRows ∧ s.status = .running ∧ s.pc.toNat < s.imageEnd ∧
      readMem s.pc s ∈ [0x08, 0x10, 0x18, 0x20, 0x28, 0x30, 0x38, 0xCB, 0xD9, 0xDD, 0xED, 0xFD] := by decide

theorem witness_EndedRunTakesNoStep :
    ({ start with status := .boundary } : State).status = .boundary ∧
    ({ start with status := .halted } : State).status = .halted ∧
    ({ start with status := .fault 0x0100 0x08 } : State).status = .fault 0x0100 0x08 ∧
    (∃ t, step start = .next t) := ⟨rfl, rfl, rfl, _, rfl⟩

theorem witness_NothingElseIsAnException :
    WellFormed .hlt ∧ WellFormed .nop ∧ ¬ WellFormed .undefined08 ∧ start.status = .running := by decide

/-- A running state, and one of each ended status. -/
theorem witness_DrivingLoopStepsUntilTheRunEnds :
    start.status = .running ∧ ({ start with status := .boundary } : State).status ≠ .running ∧
    ({ start with status := .halted } : State).status ≠ .running ∧
    ({ start with status := .fault 0xFFFF 0xFD } : State).status ≠ .running ∧
    runOutcome { start with status := .fault 0xFFFF 0xFD } = some (.unimplementedOpcode 0xFFFF 0xFD) := by decide

theorem witness_EndedRunKeepsItsLastState :
    ∃ t, drive 1 { start with mem := [(0, 0x76)] } = .next t ∧ t.status ≠ .running := ⟨_, rfl, by decide⟩

/-- A step that executes, one that raises the exception and one that is the boundary check. -/
theorem witness_TraceReportsExecutedInstructions :
    (∃ t, step start = .next t ∧ start.pc.toNat < start.imageEnd ∧
      Config.implemented (readMem start.pc start) = true) ∧
    (∃ t, step { start with mem := [(0, 0x08)] } = .next t ∧ Config.implemented 0x08 = false) ∧
    (∃ t, step State.reset = .next t ∧ ¬ State.reset.pc.toNat < State.reset.imageEnd) :=
  ⟨⟨_, rfl, by decide, by decide⟩, ⟨_, rfl, by decide⟩, ⟨_, rfl, by decide⟩⟩

theorem witness_LaunchMeetsInv : ∃ t, launch 0xFFFE [0x11, 0x22] = .next t := ⟨_, rfl⟩

/-- A state that meets the invariant, with memory in use, and its step. -/
theorem witness_StepKeepsInv :
    ∃ t, Inv { start with mem := [(0, 0x36), (1, 0x01)] } ∧ step { start with mem := [(0, 0x36), (1, 0x01)] } = .next t :=
  ⟨_, ⟨by decide, by decide, by decide, by decide, fun _ _ h => by simp [start, State.reset] at h⟩, rfl⟩

/-- Each ended status, at the edge of what the invariant says of it. -/
theorem witness_Inv_ended :
    Inv { start with status := .boundary, pc := 5, imageEnd := 5 } ∧
    Inv { start with status := .halted, pc := 5, imageEnd := 5, mem := [(4, 0x76)] } ∧
    Inv { start with status := .fault 4 0x08, pc := 4, imageEnd := 5, mem := [(4, 0x08)] } := by
  refine ⟨⟨by decide, by decide, by decide, by decide, ?_⟩, ⟨by decide, by decide, by decide, by decide, ?_⟩,
    ⟨by decide, by decide, by decide, by decide, ?_⟩⟩
  · intro _ _ h; cases h
  · intro _ _ h; cases h
  · intro _ _ h; cases h; decide

theorem witness_RegistersOutsideTheRuleKept :
    (∃ t, exec .inrB start = .next t) ∧ Reg.c ∉ writtenRegs .inrB ∧ mayWriteSp .inrB = false :=
  ⟨⟨_, rfl⟩, by decide, by decide⟩

theorem witness_FlagsOutsideTheTableKept : (∃ t, exec .inrB start = .next t) ∧ FlagName.cy ∉ writtenFlags .inrB :=
  ⟨⟨_, rfl⟩, by decide⟩

/-- A store of two bytes that wraps, and a byte outside it. -/
theorem witness_MemoryOutsideTheStoresKept :
    (∃ t, exec (.shld 0xFFFF) start = .next t) ∧ storedBytes (.shld 0xFFFF) start = [0xFFFF, 0x0000] ∧
      (0x0001 : Word) ∉ storedBytes (.shld 0xFFFF) start := ⟨⟨_, rfl⟩, by decide, by decide⟩

theorem witness_ControlStateKept :
    (∃ t, exec (.inPort 0xFF) start = .next t) ∧ (∃ t, exec .ei start = .next t) ∧
      ∀ port, Instr.ei ≠ .inPort port := ⟨⟨_, rfl⟩, ⟨_, rfl⟩, fun _ h => by cases h⟩

/-- An instruction at the last address: the next one is at 0x0000. -/
theorem witness_SequentialProgramCounter :
    ∃ t, exec .nop { start with pc := 0xFFFF } = .next t ∧ mayLeaveSequence .nop = false ∧ t.pc = 0 :=
  ⟨_, rfl, by decide, by decide⟩

/-- A step that meets no EI or DI, and the two instructions themselves. -/
theorem witness_InterruptEnableHasNoEffect :
    readMem start.pc start ≠ 0xFB ∧ readMem start.pc start ≠ 0xF3 ∧
      (∃ t, exec .ei start = .next t) ∧ (∃ t, exec .di { start with inte := true } = .next t) :=
  ⟨by decide, by decide, ⟨_, rfl⟩, ⟨_, rfl⟩⟩

theorem witness_OnlyInputTakesADraw : ∀ port, Instr.outPort 1 ≠ .inPort port := fun _ h => by cases h

theorem witness_ExchangePairs : ∃ t, exec .xchg { start with d := 1, h := 2 } = .next t := ⟨_, rfl⟩

theorem witness_IndirectAndPairMoves : (0x0001 : Word) ∉ [0xFFFF, 0xFFFF + 1] := by decide

theorem witness_Rotates : ∃ t, exec .ral { start with a := 0x80 } = .next t := ⟨_, rfl⟩

/-- Both cases of the condition. -/
theorem witness_CallsPushTheReturnAddress :
    condHolds .z { Flags.clear with z := true } = true ∧ condHolds .z Flags.clear = false := by decide

/-- A call whose stack wraps, then the return. -/
theorem witness_ReturnsPopTheProgramCounter :
    ∃ t, exec (.call 0x0200) { start with sp := 1 } = .next t ∧ t.sp = 0xFFFF := ⟨_, rfl, by decide⟩

theorem witness_PopPair : ∃ t, exec (Instr.ofPush .bc) { start with b := 0x12 } = .next t := ⟨_, rfl⟩

theorem witness_AccumulatorAndFlagsOnTheStack : ∃ t, exec .pushPsw { start with a := 0x42 } = .next t := ⟨_, rfl⟩

end Sys2Proof.Tests
end

