-- ==== Sys2Proof/Proofs/ZeroSignParity.lean ====
section
/-! Z, S and P of a result (R16, R170): parity by the list of 1 bits, zero and sign by the unsigned value, and what
`setZsp` does to each flag. -/

namespace Sys2Proof.Machine

theorem popcount_eq_length_filter (v : Byte) : popcount v = ((List.range 8).filter v.getLsbD).length :=
  List.countP_eq_length_filter

theorem parity_eq_decide_even (v : Byte) :
    parity v = decide (Even ((List.range 8).filter v.getLsbD).length) := by
  rw [← popcount_eq_length_filter]
  exact decide_eq_decide.mpr Nat.even_iff.symm

/-- The spelling of the zero test by the unsigned value. -/
theorem decide_byte_eq_zero (v : Byte) : decide (v = 0) = decide (v.toNat = 0) :=
  decide_eq_decide.mpr BitVec.toNat_eq

/-- The sign bit is bit 7, so it is the comparison of the unsigned value with 128. -/
theorem byte_msb_eq_decide (v : Byte) : v.msb = decide (128 ≤ v.toNat) :=
  BitVec.msb_eq_decide v

@[simp] theorem setZsp_z (v : Byte) (f : Flags) : (setZsp v f).z = decide (v = 0) := rfl
@[simp] theorem setZsp_s (v : Byte) (f : Flags) : (setZsp v f).s = v.msb := rfl
@[simp] theorem setZsp_p (v : Byte) (f : Flags) : (setZsp v f).p = parity v := rfl
@[simp] theorem setZsp_cy (v : Byte) (f : Flags) : (setZsp v f).cy = f.cy := rfl
@[simp] theorem setZsp_ac (v : Byte) (f : Flags) : (setZsp v f).ac = f.ac := rfl

/-- Settles O11: each flag by its own equation, with parity, zero and sign in their arithmetic spelling. -/
theorem zeroSignParityOfResult : Obligations.ZeroSignParityOfResult := by
  intro res f
  have zero : (setZsp res f).z = decide (res.toNat = 0) :=
    (setZsp_z res f).trans (decide_byte_eq_zero res)
  have sign : (setZsp res f).s = decide (128 ≤ res.toNat) :=
    (setZsp_s res f).trans (byte_msb_eq_decide res)
  exact ⟨parity_eq_decide_even res, zero, sign, setZsp_p res f, setZsp_cy res f, setZsp_ac res f⟩

end Sys2Proof.Machine
end

