-- ==== Sys2Proof/Proofs/MemoryReadWrite.lean ====
section
/-! Reading memory after a write and at reset (R51, R52), by 16-bit address. -/

namespace Sys2Proof.Machine

/-- `Memory.readAt_writeAt` carried to 16-bit addresses, which are equal exactly when their values are. -/
theorem Memory.read_write (m : Memory) (a b : Word) (v : Byte) :
    Memory.read (Memory.write m a v) b = if b = a then v else Memory.read m b := by
  have atNat : Memory.read (Memory.write m a v) b = if b.toNat = a.toNat then v else Memory.read m b :=
    Memory.readAt_writeAt a.toNat b.toNat v m
  rw [atNat]
  simp only [BitVec.toNat_inj]

/-- Memory at reset lists no cell, so every address reads as an unlisted one. -/
@[simp] theorem Memory.read_reset (a : Word) : Memory.read State.reset.mem a = 0x00 := rfl

/-- Settles O9: the read-after-write law, the read at reset, and `readMem` as the read of the state's memory. -/
theorem memoryReadAfterWrite : Obligations.MemoryReadAfterWrite :=
  ⟨Memory.read_write, Memory.read_reset, fun _ _ => rfl⟩

end Sys2Proof.Machine
end

