-- ==== Sys2Proof/Proofs/OpcodeByte.lean ====
section
/-! The opcode byte of the instruction in each place of the opcode map (R89), and what the decoder does with an opcode byte
that has two bytes after it (R91). -/

namespace Sys2Proof

/-- The entry in row `hi` and column `lo` of the opcode map has the opcode byte `hi lo`, whatever its operands. -/
theorem opcodeMap_map_opcodeOf (d8 : Byte) (d16 : Word) :
    (opcodeMap d8 d16).map (List.map opcodeOf) =
      (List.range 16).map fun hi => (List.range 16).map fun lo => BitVec.ofNat 8 (16 * hi + lo) := rfl

/-- No operand byte changes which instruction an opcode byte names (R91). -/
theorem opcodeOf_decodeOp (op b1 b2 : Byte) : opcodeOf (decodeOp op b1 b2) = op := by
  have row_lt : op.toNat / 16 < 16 := by omega
  have column_lt : op.toNat % 16 < 16 := Nat.mod_lt _ (by decide)
  calc opcodeOf (decodeOp op b1 b2)
      = (((opcodeMap b1 (imm16 b1 b2)).map (List.map opcodeOf)).getD (op.toNat / 16) []).getD
          (op.toNat % 16) (opcodeOf .nop) := by
        rw [decodeOp, ← List.getD_map (f := opcodeOf), ← List.getD_map (f := List.map opcodeOf), List.map_nil]
    _ = BitVec.ofNat 8 (16 * (op.toNat / 16) + op.toNat % 16) := by
        rw [opcodeMap_map_opcodeOf]
        simp [List.getD_eq_getElem?_getD, row_lt, column_lt]
    _ = op := by rw [Nat.div_add_mod, BitVec.ofNat_toNat, BitVec.setWidth_eq]

/-- With two bytes after it, every opcode byte decodes to an entry of its own place in the map, and the decoder takes as many
bytes as the opcode byte says. -/
theorem decode_with_two_bytes_after (op b1 b2 : Byte) (rest : List Byte) :
    ∃ c1 c2, decode (op :: b1 :: b2 :: rest) =
      .ok (decodeOp op c1 c2) ((b1 :: b2 :: rest).drop (instrLength op - 1)) := by
  obtain one | two | three := instrLength_cases op
  · exact ⟨0, 0, by rw [decode_one one, one]; rfl⟩
  · exact ⟨b1, 0, by rw [decode_two two, two]; rfl⟩
  · exact ⟨b1, b2, by rw [decode_three three, three]; rfl⟩

/-- Settles O3: the decoder by the length of the opcode byte, and the opcode of the map's entry. -/
theorem opcodeByteFixesLength : Obligations.OpcodeByteFixesLength := by
  intro op b1 b2 rest
  obtain ⟨c1, c2, decoded⟩ := decode_with_two_bytes_after op b1 b2 rest
  exact ⟨instrLength_cases op, decodeOp op c1 c2, decoded, opcodeOf_decodeOp op c1 c2⟩

end Sys2Proof
end

