-- ==== Sys2Proof/Proofs/DataTransfer.lean ====
section
/-! The data transfer instructions (41_data_transfer.md): the bytes of each family, what each operation they share does to the
state, and the obligations assembled from these. -/

namespace Sys2Proof

/-! ## The bytes of each family (R141 to R146) -/

theorem encode_ofMov (dst src : Reg) : encode (Instr.ofMov dst src) = [opMov (regCode dst) (regCode src)] := by
  cases dst <;> cases src <;> rfl

theorem encode_ofMovFromMem (dst : Reg) : encode (Instr.ofMovFromMem dst) = [opMov (regCode dst) codeM] := by
  cases dst <;> rfl

theorem encode_ofMovToMem (src : Reg) : encode (Instr.ofMovToMem src) = [opMov codeM (regCode src)] := by
  cases src <;> rfl

theorem encode_ofMvi (dst : Reg) (d8 : Byte) : encode (Instr.ofMvi dst d8) = [opMvi (regCode dst), d8] := by
  cases dst <;> rfl

theorem encode_ofLxi (p : Pair16) (d16 : Word) :
    encode (Instr.ofLxi p d16) = opLxi (pair16Code p) :: imm16Bytes d16 := by
  cases p <;> rfl

/-- A 16-bit operand is encoded low byte first (R87), behind whatever opcode byte. -/
theorem cons_imm16Bytes_append (op b1 b2 : Byte) : op :: imm16Bytes (b2 ++ b1) = [op, b1, b2] :=
  congrArg (op :: ·) (imm16Bytes_imm16 b1 b2)

namespace Machine

/-! ## What the shared operations do -/

/-- A register written with what it holds is the state as it was: what makes `MOV r,r` change only `PC`. -/
@[simp] theorem writeReg_readReg (r : Reg) (s : State) : writeReg r (readReg r s) s = s := by
  cases r <;> rfl

/-- The byte loaded and `PC`, which no register write changes. -/
theorem loadReg_eq (r : Reg) (v : Byte) (width : Nat) (s : State) :
    loadReg r v width s = { writeReg r v s with pc := s.pc + BitVec.ofNat 16 width } := by
  rw [loadReg, advance, nextPc, writeReg_pc]

/-- The byte stored at HL and `PC`, with HL as its two registers (R22). -/
theorem storeAtHl_eq (v : Byte) (width : Nat) (s : State) :
    storeAtHl v width s =
      { s with mem := Memory.write s.mem (combine s.h s.l) v, pc := s.pc + BitVec.ofNat 16 width } := rfl

theorem readAtHl_eq (s : State) : readAtHl s = readMem (combine s.h s.l) s := rfl

/-- A pair written with a combined value: each byte lands in its own register. -/
theorem writePair_combine (p : RegPair) (hi lo : Byte) (s : State) :
    writePair p (combine hi lo) s = writeReg (lowReg p) lo (writeReg (highReg p) hi s) := by
  rw [writePair, highByte_combine, lowByte_combine]

/-- Moving `PC` twice is moving it by both widths. -/
theorem advance_advance (width width' : Nat) (s : State) :
    advance width' (advance width s) = advance (width + width') s := by
  simp only [advance, nextPc, BitVec.add_assoc, BitVec.ofNat_add]

/-- The exchange undoes itself. -/
@[simp] theorem exchangeDeHl_exchangeDeHl (s : State) : exchangeDeHl (exchangeDeHl s) = s := rfl

theorem exchangeDeHl_advance (width : Nat) (s : State) :
    exchangeDeHl (advance width s) = advance width (exchangeDeHl s) := rfl

/-! ## The instructions that stand outside a family -/

theorem exec_mviM (d8 : Byte) (s : State) : exec (.mviM d8) s = .next (storeAtHl d8 2 s) := rfl

theorem exec_lda (a16 : Word) (s : State) : exec (.lda a16) s = .next (loadReg .a (readMem a16 s) 3 s) := rfl

theorem exec_sta (a16 : Word) (s : State) : exec (.sta a16) s = .next (advance 3 (writeMem a16 (readReg .a s) s)) := rfl

theorem exec_xchg (s : State) : exec .xchg s = .next (advance 1 (exchangeDeHl s)) := rfl

/-! ## The obligations -/

/-- Settles O36: the operand's bytes low byte first, and a case per operand: three pairs written by their registers, and SP
by the value. -/
theorem loadPairImmediate : Obligations.LoadPairImmediate := by
  intro p b1 b2 s
  have bytes : encode (Instr.ofLxi p (b2 ++ b1)) = [opLxi (pair16Code p), b1, b2] :=
    (encode_ofLxi p (b2 ++ b1)).trans (cons_imm16Bytes_append _ b1 b2)
  have loaded : exec (Instr.ofLxi p (b2 ++ b1)) s = .next (advance 3 (writePair16 p (combine b2 b1) s)) :=
    exec_ofLxi p (b2 ++ b1) s
  refine ⟨bytes, loaded.trans ?_⟩
  cases p with
  | bc | de | hl =>
    rw [writePair16, writePair_combine]
    rfl
  | sp => rfl

/-- Settles O32: the load of the source's value, which for `d = r` is the value already there. -/
theorem moveBetweenRegisters : Obligations.MoveBetweenRegisters := by
  intro dst src s
  have moved (r : Reg) : exec (Instr.ofMov r src) s = .next { writeReg r (readReg src s) s with pc := s.pc + 1 } :=
    (exec_ofMov r src s).trans (congrArg _ (loadReg_eq r (readReg src s) 1 s))
  have self : exec (Instr.ofMov src src) s = .next { s with pc := s.pc + 1 } := by
    rw [moved src, writeReg_readReg]
  exact ⟨encode_ofMov dst src, moved dst, self⟩

/-- Settles O33: the load of the byte at HL, read in the state before the write. -/
theorem moveFromMemory : Obligations.MoveFromMemory := by
  intro dst s
  have loaded : exec (Instr.ofMovFromMem dst) s = .next (loadReg dst (readMem (combine s.h s.l) s) 1 s) := by
    rw [exec_ofMovFromMem, readAtHl_eq]
  exact ⟨encode_ofMovFromMem dst, loaded.trans (congrArg _ (loadReg_eq dst _ 1 s))⟩

/-- Settles O34: both instructions are the store at HL, of one byte and of two. -/
theorem storesAtHl : Obligations.StoresAtHl := by
  constructor
  · intro r s
    exact ⟨encode_ofMovToMem r, (exec_ofMovToMem r s).trans (congrArg _ (storeAtHl_eq (readReg r s) 1 s))⟩
  · intro v s
    exact ⟨rfl, (exec_mviM v s).trans (congrArg _ (storeAtHl_eq v 2 s))⟩

/-- Settles O35: the load of the immediate byte. -/
theorem moveImmediate : Obligations.MoveImmediate := by
  intro dst v s
  exact ⟨encode_ofMvi dst v, (exec_ofMvi dst v s).trans (congrArg _ (loadReg_eq dst v 2 s))⟩

/-- Settles O37: the address bytes low byte first, A loaded from the address or stored there. -/
theorem directAccumulatorMoves : Obligations.DirectAccumulatorMoves := by
  intro b1 b2 s
  exact ⟨cons_imm16Bytes_append 0x3A b1 b2, cons_imm16Bytes_append 0x32 b1 b2,
    (exec_lda (b2 ++ b1) s).trans (congrArg _ (loadReg_eq .a (readMem (b2 ++ b1) s) 3 s)), exec_sta (b2 ++ b1) s⟩

/-- Settles O39: one exchange by its fields, and two of them as the identity but for `PC`. -/
theorem exchangePairs : Obligations.ExchangePairs := by
  refine ⟨rfl, fun s => ⟨exec_xchg s, fun t once => ?_⟩⟩
  have exchanged : t = advance 1 (exchangeDeHl s) := by
    rw [exec_xchg] at once
    exact (Host.Outcome.next.inj once).symm
  calc exec .xchg t
      = .next (advance 1 (exchangeDeHl (advance 1 (exchangeDeHl s)))) := by rw [exchanged, exec_xchg]
    _ = .next (advance 2 s) := by rw [exchangeDeHl_advance, exchangeDeHl_exchangeDeHl, advance_advance]

end Machine

end Sys2Proof
end

