-- ==== Sys2Proof/Proofs/PairArithmetic.lean ====
section
/-! INX and DCX (42_arithmetic.md): their bytes, the read of a pair or SP after it was written, and the write of a new value
with `PC` one higher, which is all that either instruction does. -/

namespace Sys2Proof

theorem encode_ofInx (p : Pair16) : encode (Instr.ofInx p) = [opInx (pair16Code p)] := by
  cases p <;> rfl

theorem encode_ofDcx (p : Pair16) : encode (Instr.ofDcx p) = [opDcx (pair16Code p)] := by
  cases p <;> rfl

namespace Machine

/-- A pair written is read back, from its two bytes in their two registers (R22, R23). -/
@[simp] theorem readPair_writePair (p : RegPair) (v : Word) (s : State) : readPair p (writePair p v s) = v := by
  have registers : readPair p (writePair p v s) = combine (highByte v) (lowByte v) := by cases p <;> rfl
  rw [registers, combine_highByte_lowByte]

@[simp] theorem readPair16_writePair16 (p : Pair16) (v : Word) (s : State) :
    readPair16 p (writePair16 p v s) = v := by
  cases p with
  | bc => exact readPair_writePair .bc v s
  | de => exact readPair_writePair .de v s
  | hl => exact readPair_writePair .hl v s
  | sp => rfl

@[simp] theorem readPair16_advance (p : Pair16) (width : Nat) (s : State) :
    readPair16 p (advance width s) = readPair16 p s := by
  cases p <;> rfl

/-- The pair written and `PC`, which no write of a pair or SP changes. -/
theorem advance_writePair16 (p : Pair16) (v : Word) (width : Nat) (s : State) :
    advance width (writePair16 p v s) = { writePair16 p v s with pc := s.pc + BitVec.ofNat 16 width } := by
  rw [advance, nextPc, writePair16_pc]

/-- The state after the write of a pair or SP by a one-byte instruction, said by what it reads there (R192, R193). -/
theorem advance_writePair16_by_read (p : Pair16) (v : Word) (s : State) :
    readPair16 p (advance 1 (writePair16 p v s)) = v ∧
      advance 1 (writePair16 p v s) =
        { writePair16 p (readPair16 p (advance 1 (writePair16 p v s))) s with pc := s.pc + 1 } := by
  have read : readPair16 p (advance 1 (writePair16 p v s)) = v := by
    rw [readPair16_advance, readPair16_writePair16]
  exact ⟨read, by rw [read]; exact advance_writePair16 p v 1 s⟩

theorem word_add_one_toNat (v : Word) : (v + 1).toNat = (v.toNat + 1) % 0x10000 :=
  BitVec.toNat_add v 1

/-- One less modulo 2^16 is 0xFFFF more. -/
theorem word_sub_one_toNat (v : Word) : (v - 1).toNat = (v.toNat + 0xFFFF) % 0x10000 := by
  rw [Nat.add_comm]
  exact BitVec.toNat_sub v 1

/-- Settles O44: each is the write of the pair plus or minus one, which is read back from the state it answers. -/
theorem pairIncrementDecrement : Obligations.PairIncrementDecrement := by
  intro p s
  obtain ⟨incremented, incrementedState⟩ := advance_writePair16_by_read p (readPair16 p s + 1) s
  obtain ⟨decremented, decrementedState⟩ := advance_writePair16_by_read p (readPair16 p s - 1) s
  exact ⟨encode_ofInx p, encode_ofDcx p,
    ⟨incrementPair p s, exec_ofInx p s,
      (congrArg BitVec.toNat incremented).trans (word_add_one_toNat _), incrementedState⟩,
    ⟨decrementPair p s, exec_ofDcx p s,
      (congrArg BitVec.toNat decremented).trans (word_sub_one_toNat _), decrementedState⟩⟩

end Machine

end Sys2Proof
end

