-- ==== Sys2Proof/Proofs/Jumps.lean ====
section
/-! JMP and the conditional jumps (44_branch.md): the condition predicate by its codes, the bytes of a conditional jump, and
the one field that a jump changes. -/

namespace Sys2Proof

theorem encode_ofJcc (cond : Cond) (a16 : Word) :
    encode (Instr.ofJcc cond a16) = opJcc (condCode cond) :: imm16Bytes a16 := by
  cases cond <;> rfl

namespace Machine

/-! ## The condition predicate (R260) -/

/-- Settles O50: a condition has one code, which leaves one disjunct, and it asks the flag of that disjunct to be clear or
to be set. -/
theorem conditionPredicate : Obligations.ConditionPredicate := by
  intro cond f
  cases cond with
  | nz | nc | po | p =>
    rw [condHolds, Bool.not_eq_true']
    simp [condCode]
  | z | c | pe | m =>
    rw [condHolds]
    simp [condCode]

/-! ## What a jump does to the state (R261 to R269) -/

theorem exec_jmp (a16 : Word) (s : State) : exec (.jmp a16) s = .next (jumpTo a16 s) := rfl

theorem jumpIf_of_holds {cond : Cond} {s : State} (holds : condHolds cond s.flags = true) (target : Word) :
    jumpIf cond target s = jumpTo target s :=
  if_pos holds

theorem jumpIf_of_not_holds {cond : Cond} {s : State} (fails : ¬ condHolds cond s.flags = true) (target : Word) :
    jumpIf cond target s = advance 3 s :=
  if_neg fails

/-- Taken or not, a conditional jump writes `PC` and nothing else. -/
theorem jumpIf_eq (cond : Cond) (target : Word) (s : State) :
    jumpIf cond target s = { s with pc := if condHolds cond s.flags = true then target else s.pc + 3 } := by
  by_cases holds : condHolds cond s.flags = true
  · rw [jumpIf_of_holds holds, if_pos holds]
    rfl
  · rw [jumpIf_of_not_holds holds, if_neg holds]
    rfl

/-- Settles O51: the target's bytes low byte first behind either opcode byte, and `PC` as the one field written. -/
theorem jumpsSetTheProgramCounter : Obligations.JumpsSetTheProgramCounter := by
  intro b1 b2 s
  refine ⟨⟨cons_imm16Bytes_append 0xC3 b1 b2, exec_jmp (b2 ++ b1) s⟩, fun cond => ⟨?_, ?_⟩⟩
  · exact (encode_ofJcc cond (b2 ++ b1)).trans (cons_imm16Bytes_append _ b1 b2)
  · exact (exec_ofJcc cond (b2 ++ b1) s).trans (congrArg _ (jumpIf_eq cond (b2 ++ b1) s))

end Machine

end Sys2Proof
end

