-- ==== Sys2Proof/Proofs/StackPairs.lean ====
section
/-! PUSH and POP of a register pair (46_stack.md): their bytes, the state after a one-byte push of any value, what `pop16` makes
of that state, and the place of a pair's write among the fields that a pop changes. -/

namespace Sys2Proof

theorem encode_ofPush (p : RegPair) : encode (Instr.ofPush p) = [0b11#2 ++ pairCode p ++ 0b0101#4] := by
  cases p <;> rfl

theorem encode_ofPop (p : RegPair) : encode (Instr.ofPop p) = [0b11#2 ++ pairCode p ++ 0b0001#4] := by
  cases p <;> rfl

namespace Machine

/-! ## The two bytes of a pair (R22) -/

@[simp] theorem highByte_readPair (p : RegPair) (s : State) : highByte (readPair p s) = readReg (highReg p) s :=
  highByte_combine _ _

@[simp] theorem lowByte_readPair (p : RegPair) (s : State) : lowByte (readPair p s) = readReg (lowReg p) s :=
  lowByte_combine _ _

/-! ## The state after a push -/

/-- Moving `PC` leaves what was pushed where it is. -/
theorem pushed_advance {v : Word} {s t : State} (pushed : Pushed v s t) (width : Nat) : Pushed v s (advance width t) :=
  pushed

/-- A one-byte push of any value: what is on the stack, and that only memory, `SP` and `PC` are written (R290). -/
theorem advance_push16_spec (v : Word) (s : State) :
    Pushed v s (advance 1 (push16 v s)) ∧
      advance 1 (push16 v s) =
        { s with mem := (push16 v s).mem, sp := (push16 v s).sp, pc := s.pc + 1 } :=
  ⟨pushed_advance (push16_pushed v s) 1, congrArg (advance 1) (push16_eq v s)⟩

/-- What `pop16` returns after a one-byte push (R291). -/
@[simp] theorem popValue_advance_push16 (v : Word) (s : State) : popValue (advance 1 (push16 v s)) = v :=
  popValue_of_pushed (advance_push16_spec v s).1

/-- Dropping what a one-byte push put on the stack restores `SP`, modulo 2^16, and leaves the stored bytes in memory. -/
theorem dropPopped_advance_push16 (v : Word) (s : State) :
    dropPopped (advance 1 (push16 v s)) = { s with mem := (push16 v s).mem, pc := s.pc + 1 } := by
  have sp_restored : (push16 v s).sp + 2 = s.sp := by rw [push16_sp, BitVec.sub_add_cancel]
  calc dropPopped (advance 1 (push16 v s))
      = dropPopped { s with mem := (push16 v s).mem, sp := (push16 v s).sp, pc := s.pc + 1 } :=
        congrArg dropPopped (advance_push16_spec v s).2
    _ = { s with mem := (push16 v s).mem, sp := (push16 v s).sp + 2, pc := s.pc + 1 } := rfl
    _ = { s with mem := (push16 v s).mem, pc := s.pc + 1 } := by rw [sp_restored]

/-! ## A pair written among the other fields of a pop -/

theorem advance_writePair (width : Nat) (p : RegPair) (v : Word) (s : State) :
    advance width (writePair p v s) = writePair p v (advance width s) := by
  cases p <;> rfl

theorem writePair_with_sp_pc (p : RegPair) (v sp pc : Word) (s : State) :
    writePair p v { s with sp := sp, pc := pc } = { writePair p v s with sp := sp, pc := pc } := by
  cases p <;> rfl

theorem writePair_with_mem_pc (p : RegPair) (v pc : Word) (mem : Memory) (s : State) :
    writePair p v { s with mem := mem, pc := pc } = { writePair p v s with mem := mem, pc := pc } := by
  cases p <;> rfl

/-- Settles O55: the push of the pair's value, whose two bytes are the pair's two registers. -/
theorem pushPair : Obligations.PushPair := by
  intro p s
  obtain ⟨⟨high, low, sp_lower, others⟩, frame⟩ := advance_push16_spec (readPair p s) s
  exact ⟨encode_ofPush p, advance 1 (push16 (readPair p s) s), exec_ofPush p s,
    high.trans (highByte_readPair p s), low.trans (lowByte_readPair p s), sp_lower, others, frame⟩

/-- POP as the pair, `SP` and `PC` written in the state before it (R333). -/
theorem exec_ofPop_eq (p : RegPair) (s : State) :
    exec (Instr.ofPop p) s = .next { writePair p (popValue s) s with sp := s.sp + 2, pc := s.pc + 1 } := by
  calc exec (Instr.ofPop p) s
      = .next (writePair p (popValue s) (advance 1 (dropPopped s))) := by rw [exec_ofPop, advance_writePair]
    _ = .next { writePair p (popValue s) s with sp := s.sp + 2, pc := s.pc + 1 } :=
        congrArg _ (writePair_with_sp_pc p (popValue s) (s.sp + 2) (s.pc + 1) s)

/-- POP in the state that a one-byte push of `v` answers: the pair holds `v`, and `SP` is where it was (R333). -/
theorem exec_ofPop_advance_push16 (q : RegPair) (v : Word) (s : State) :
    exec (Instr.ofPop q) (advance 1 (push16 v s)) =
      .next { writePair q v s with mem := (push16 v s).mem, pc := s.pc + 2 } := by
  have pc_twice : s.pc + 1 + 1 = s.pc + 2 := BitVec.add_assoc s.pc 1 1
  calc exec (Instr.ofPop q) (advance 1 (push16 v s))
      = .next (writePair q v (advance 1 { s with mem := (push16 v s).mem, pc := s.pc + 1 })) := by
        rw [exec_ofPop, popValue_advance_push16, dropPopped_advance_push16, advance_writePair]
    _ = .next { writePair q v s with mem := (push16 v s).mem, pc := s.pc + 1 + 1 } :=
        congrArg _ (writePair_with_mem_pc q v (s.pc + 1 + 1) (push16 v s).mem s)
    _ = .next { writePair q v s with mem := (push16 v s).mem, pc := s.pc + 2 } := by rw [pc_twice]

/-- Settles O56: the pop by its fields, and the pop of what a push put on the stack. -/
theorem popPair : Obligations.PopPair := by
  refine ⟨fun p s => ⟨encode_ofPop p, exec_ofPop_eq p s⟩, fun p q s t push => ?_⟩
  have pushed : advance 1 (push16 (readPair p s) s) = t := by
    rw [exec_ofPush] at push
    exact Host.Outcome.next.inj push
  rw [← pushed]
  exact exec_ofPop_advance_push16 q (readPair p s) s

end Machine

end Sys2Proof
end

