-- ==== Sys2Proof/Proofs/InterruptEnable.lean ====
section
/-! INTE has no effect on execution (R374): no read of the state sees it, every write but that of INTE itself commutes with
writing it, and so each family of instructions, and then the step, carries it along. -/

namespace Sys2Proof

namespace Machine

section Commute

variable (v : Bool) (s : State)

/-! ## Reads do not see INTE -/

@[simp] theorem readPair_setInte (p : RegPair) : readPair p (setInte v s) = readPair p s := by
  simp [readPair]

@[simp] theorem readPair16_setInte (p : Pair16) : readPair16 p (setInte v s) = readPair16 p s := by
  cases p <;> simp [readPair16]

@[simp] theorem readMem16_setInte (x : Word) : readMem16 x (setInte v s) = readMem16 x s := rfl
@[simp] theorem readAtHl_setInte : readAtHl (setInte v s) = readAtHl s := rfl
@[simp] theorem popValue_setInte : popValue (setInte v s) = popValue s := rfl
@[simp] theorem psw_setInte : psw (setInte v s) = psw s := rfl
@[simp] theorem nextPc_setInte (width : Nat) : nextPc width (setInte v s) = nextPc width s := rfl

@[simp] theorem operandValue_setInte (src : Src) : operandValue src (setInte v s) = operandValue src s := by
  cases src <;> simp [operandValue]

@[simp] theorem atImageEnd_setInte : atImageEnd (setInte v s) = atImageEnd s := rfl
@[simp] theorem fetchOpcode_setInte : fetchOpcode (setInte v s) = fetchOpcode s := rfl
@[simp] theorem fetchInstr_setInte : fetchInstr (setInte v s) = fetchInstr s := rfl

/-! ## Writes commute with writing INTE -/

/-- The later write of INTE stands: EI and DI overwrite it, whatever it was. -/
@[simp] theorem setInte_setInte (w : Bool) : setInte w (setInte v s) = setInte w s := rfl

@[simp] theorem setSp_setInte (x : Word) : setSp x (setInte v s) = setInte v (setSp x s) := rfl
@[simp] theorem setFlags_setInte (f : Flags) : setFlags f (setInte v s) = setInte v (setFlags f s) := rfl
@[simp] theorem setCarry_setInte (c : Bool) : setCarry c (setInte v s) = setInte v (setCarry c s) := rfl
@[simp] theorem setStatus_setInte (st : Status) : setStatus st (setInte v s) = setInte v (setStatus st s) := rfl
@[simp] theorem takeDraw_setInte : takeDraw (setInte v s) = setInte v (takeDraw s) := rfl
@[simp] theorem advance_setInte (width : Nat) : advance width (setInte v s) = setInte v (advance width s) := rfl
@[simp] theorem jumpTo_setInte (target : Word) : jumpTo target (setInte v s) = setInte v (jumpTo target s) := rfl
@[simp] theorem writeMem_setInte (x : Word) (b : Byte) :
    writeMem x b (setInte v s) = setInte v (writeMem x b s) := rfl
@[simp] theorem writeMem16_setInte (x w : Word) :
    writeMem16 x w (setInte v s) = setInte v (writeMem16 x w s) := rfl
@[simp] theorem push16_setInte (w : Word) : push16 w (setInte v s) = setInte v (push16 w s) := rfl
@[simp] theorem dropPopped_setInte : dropPopped (setInte v s) = setInte v (dropPopped s) := rfl
@[simp] theorem exchangeDeHl_setInte : exchangeDeHl (setInte v s) = setInte v (exchangeDeHl s) := rfl
@[simp] theorem writePsw_setInte (w : Word) : writePsw w (setInte v s) = setInte v (writePsw w s) := rfl
@[simp] theorem raiseUnimplemented_setInte (op : Byte) :
    raiseUnimplemented op (setInte v s) = setInte v (raiseUnimplemented op s) := rfl
@[simp] theorem endAtBoundary_setInte : endAtBoundary (setInte v s) = setInte v (endAtBoundary s) := rfl

@[simp] theorem writeReg_setInte (r : Reg) (b : Byte) :
    writeReg r b (setInte v s) = setInte v (writeReg r b s) := by
  cases r <;> rfl

@[simp] theorem writePair_setInte (p : RegPair) (w : Word) :
    writePair p w (setInte v s) = setInte v (writePair p w s) := by
  simp [writePair]

@[simp] theorem writePair16_setInte (p : Pair16) (w : Word) :
    writePair16 p w (setInte v s) = setInte v (writePair16 p w s) := by
  cases p <;> simp [writePair16]

@[simp] theorem loadReg_setInte (r : Reg) (b : Byte) (width : Nat) :
    loadReg r b width (setInte v s) = setInte v (loadReg r b width s) := by
  simp [loadReg]

@[simp] theorem storeAtHl_setInte (b : Byte) (width : Nat) :
    storeAtHl b width (setInte v s) = setInte v (storeAtHl b width s) := rfl

@[simp] theorem writeAlu_setInte (r : Byte × Flags) (src : Src) :
    writeAlu r src (setInte v s) = setInte v (writeAlu r src s) := rfl

@[simp] theorem jumpIf_setInte (cond : Cond) (target : Word) :
    jumpIf cond target (setInte v s) = setInte v (jumpIf cond target s) := by
  by_cases holds : condHolds cond s.flags = true <;> simp [jumpIf, holds]

@[simp] theorem callTo_setInte (target : Word) (width : Nat) :
    callTo target width (setInte v s) = setInte v (callTo target width s) := rfl

@[simp] theorem callIf_setInte (cond : Cond) (target : Word) :
    callIf cond target (setInte v s) = setInte v (callIf cond target s) := by
  by_cases holds : condHolds cond s.flags = true <;> simp [callIf, holds]

@[simp] theorem returnFrom_setInte : returnFrom (setInte v s) = setInte v (returnFrom s) := rfl

@[simp] theorem returnIf_setInte (cond : Cond) :
    returnIf cond (setInte v s) = setInte v (returnIf cond s) := by
  by_cases holds : condHolds cond s.flags = true <;> simp [returnIf, holds]

end Commute

/-! ## Instructions and steps -/

@[simp] theorem mapNext_next (f : State → State) (s : State) : mapNext f (.next s) = .next (f s) := rfl

/-- An instruction carries INTE along: with another value of it before, nothing but that value differs after. -/
def CarriesInte (i : Instr) : Prop :=
  ∀ (v : Bool) (s : State), exec i (setInte v s) = mapNext (setInte v) (exec i s)

/-- An instruction that answers `f` of the state carries INTE along when `f` commutes with writing INTE. -/
theorem carriesInte_of_exec_eq {i : Instr} {f : State → State} (exec_eq : ∀ s, exec i s = .next (f s))
    (commutes : ∀ v s, f (setInte v s) = setInte v (f s)) : CarriesInte i := by
  intro v s
  rw [exec_eq, exec_eq, mapNext_next, commutes]

/-- Every instruction but EI and DI carries INTE along (R374). -/
theorem carriesInte_of_ne_ei_of_ne_di {i : Instr} (notEi : i ≠ .ei) (notDi : i ≠ .di) :
    CarriesInte i := by
  induction i using Instr.family_cases with
  | ei => exact absurd rfl notEi
  | di => exact absurd rfl notDi
  | undefined op i row => exact carriesInte_of_exec_eq (exec_undefined row) (by simp)
  | ofMov dst src => exact carriesInte_of_exec_eq (exec_ofMov dst src) (by simp)
  | ofMovFromMem dst => exact carriesInte_of_exec_eq (exec_ofMovFromMem dst) (by simp)
  | ofMovToMem src => exact carriesInte_of_exec_eq (exec_ofMovToMem src) (by simp)
  | ofMvi dst d8 => exact carriesInte_of_exec_eq (exec_ofMvi dst d8) (by simp)
  | ofLxi p d16 => exact carriesInte_of_exec_eq (exec_ofLxi p d16) (by simp)
  | ofInr r => exact carriesInte_of_exec_eq (exec_ofInr r) (by simp [incrementReg])
  | ofDcr r => exact carriesInte_of_exec_eq (exec_ofDcr r) (by simp [decrementReg])
  | ofInx p => exact carriesInte_of_exec_eq (exec_ofInx p) (by simp [incrementPair])
  | ofDcx p => exact carriesInte_of_exec_eq (exec_ofDcx p) (by simp [decrementPair])
  | ofDad p => exact carriesInte_of_exec_eq (exec_ofDad p) (by simp [doubleAdd])
  | ofAlu_add src => exact carriesInte_of_exec_eq (exec_ofAlu_add src) (by simp [aluAdd])
  | ofAlu_adc src => exact carriesInte_of_exec_eq (exec_ofAlu_adc src) (by simp [aluAddCarry])
  | ofAlu_sub src => exact carriesInte_of_exec_eq (exec_ofAlu_sub src) (by simp [aluSub])
  | ofAlu_sbb src => exact carriesInte_of_exec_eq (exec_ofAlu_sbb src) (by simp [aluSubBorrow])
  | ofAlu_ana src => exact carriesInte_of_exec_eq (exec_ofAlu_ana src) (by simp [aluAnd])
  | ofAlu_xra src => exact carriesInte_of_exec_eq (exec_ofAlu_xra src) (by simp [aluXor])
  | ofAlu_ora src => exact carriesInte_of_exec_eq (exec_ofAlu_ora src) (by simp [aluOr])
  | ofAlu_cmp src => exact carriesInte_of_exec_eq (exec_ofAlu_cmp src) (by simp [aluCompare])
  | ofJcc cond a16 => exact carriesInte_of_exec_eq (exec_ofJcc cond a16) (by simp)
  | ofCcc cond a16 => exact carriesInte_of_exec_eq (exec_ofCcc cond a16) (by simp)
  | ofRcc cond => exact carriesInte_of_exec_eq (exec_ofRcc cond) (by simp)
  | ofRst n => exact carriesInte_of_exec_eq (exec_ofRst n) (by simp)
  | ofPush p => exact carriesInte_of_exec_eq (exec_ofPush p) (by simp)
  | ofPop p => exact carriesInte_of_exec_eq (exec_ofPop p) (by simp)
  -- Outside a family no operand names a register or a condition, so both runs reduce to the same state.
  | _ => exact fun _ _ => rfl

theorem exec_ei (s : State) : exec .ei s = .next (advance 1 (setInte true s)) := rfl

theorem exec_di (s : State) : exec .di s = .next (advance 1 (setInte false s)) := rfl

/-- EI and DI write INTE, so what it held before makes no difference to them (R350, R351). -/
theorem exec_setInte_of_eq_ei_or_eq_di {i : Instr} (writesInte : i = .ei ∨ i = .di) (v : Bool) (s : State) :
    exec i (setInte v s) = exec i s := by
  obtain rfl | rfl := writesInte
  · rw [exec_ei, exec_ei, setInte_setInte]
  · rw [exec_di, exec_di, setInte_setInte]

/-- The fetched instruction is one of the opcode byte at `PC` (R112, R113). -/
theorem opcodeOf_fetchInstr (s : State) : opcodeOf (fetchInstr s) = readMem s.pc s :=
  opcodeOf_decodeOp _ _ _

/-- With no byte of EI or DI at `PC`, what the step fetches carries INTE along. -/
theorem carriesInte_fetchInstr {s : State} (notEi : readMem s.pc s ≠ 0xFB) (notDi : readMem s.pc s ≠ 0xF3) :
    CarriesInte (fetchInstr s) := by
  rw [← opcodeOf_fetchInstr] at notEi notDi
  exact carriesInte_of_ne_ei_of_ne_di (fun fetched => notEi (congrArg opcodeOf fetched))
    (fun fetched => notDi (congrArg opcodeOf fetched))

/-- The step decides by fields that are not INTE, and each thing it can do carries INTE along. -/
theorem step_setInte {s : State} (carries : CarriesInte (fetchInstr s)) (v : Bool) :
    step (setInte v s) = mapNext (setInte v) (step s) := by
  cases status : s.status with
  | running =>
    cases ended : atImageEnd s with
    | true => simp [step_of_atImageEnd, status, ended]
    | false =>
      cases implemented : Config.implemented (fetchOpcode s) with
      | true => simpa [step_of_implemented, status, ended, implemented] using carries v s
      | false => simp [step_of_unimplemented, status, ended, implemented]
  | boundary | halted | fault => simp [step, cycle, status, mapNext]

/-- Settles O30: EI and DI overwrite INTE, every other instruction carries it along, and so does a step that fetches
neither. -/
theorem interruptEnableHasNoEffect : Obligations.InterruptEnableHasNoEffect := by
  refine ⟨fun i v s => ?_, fun v s notEi notDi => ?_, fun s t run => ?_, fun s t run => ?_, fun s => rfl⟩
  · split
    case isTrue writesInte => exact exec_setInte_of_eq_ei_or_eq_di writesInte v s
    case isFalse neither =>
      obtain ⟨notEi, notDi⟩ := not_or.mp neither
      exact carriesInte_of_ne_ei_of_ne_di notEi notDi v s
  · exact step_setInte (carriesInte_fetchInstr notEi notDi) v
  · rw [exec_ei] at run
    rw [← Host.Outcome.next.inj run, advance_inte, setInte_inte]
  · rw [exec_di] at run
    rw [← Host.Outcome.next.inj run, advance_inte, setInte_inte]

end Machine
end Sys2Proof
end

