-- ==== Sys2Proof/Proofs/EncodeDecode.lean ====
section
/-! The encoder and the decoder undo each other (30_encoding.md): the map's entry at an instruction's own bytes is that
instruction, by family, and an entry's operand bytes are those it was given, by the map's table. -/

namespace Sys2Proof

/-! ## The opcode byte of each family (R81 to R85) -/

theorem opcodeOf_ofMov (dst src : Reg) : opcodeOf (Instr.ofMov dst src) = opMov (regCode dst) (regCode src) := by
  cases dst <;> cases src <;> rfl

theorem opcodeOf_ofMovFromMem (dst : Reg) : opcodeOf (Instr.ofMovFromMem dst) = opMov (regCode dst) codeM := by
  cases dst <;> rfl

theorem opcodeOf_ofMovToMem (src : Reg) : opcodeOf (Instr.ofMovToMem src) = opMov codeM (regCode src) := by
  cases src <;> rfl

theorem opcodeOf_ofMvi (dst : Reg) (d8 : Byte) : opcodeOf (Instr.ofMvi dst d8) = opMvi (regCode dst) := by
  cases dst <;> rfl

theorem opcodeOf_ofInr (r : Reg) : opcodeOf (Instr.ofInr r) = opInr (regCode r) := by
  cases r <;> rfl

theorem opcodeOf_ofDcr (r : Reg) : opcodeOf (Instr.ofDcr r) = opDcr (regCode r) := by
  cases r <;> rfl

theorem opcodeOf_ofAlu_reg (op : AluOp) (r : Reg) : opcodeOf (Instr.ofAlu op (.reg r)) = opAlu op (regCode r) := by
  cases op <;> cases r <;> rfl

theorem opcodeOf_ofAlu_mem (op : AluOp) : opcodeOf (Instr.ofAlu op .mem) = opAlu op codeM := by
  cases op <;> rfl

theorem opcodeOf_ofAlu_imm (op : AluOp) (d8 : Byte) : opcodeOf (Instr.ofAlu op (.imm d8)) = opAluImm op := by
  cases op <;> rfl

theorem opcodeOf_ofLxi (p : Pair16) (d16 : Word) : opcodeOf (Instr.ofLxi p d16) = opLxi (pair16Code p) := by
  cases p <;> rfl

theorem opcodeOf_ofInx (p : Pair16) : opcodeOf (Instr.ofInx p) = opInx (pair16Code p) := by
  cases p <;> rfl

theorem opcodeOf_ofDcx (p : Pair16) : opcodeOf (Instr.ofDcx p) = opDcx (pair16Code p) := by
  cases p <;> rfl

theorem opcodeOf_ofDad (p : Pair16) : opcodeOf (Instr.ofDad p) = opDad (pair16Code p) := by
  cases p <;> rfl

theorem opcodeOf_ofPush (p : RegPair) : opcodeOf (Instr.ofPush p) = opPush (pairCode p) := by
  cases p <;> rfl

theorem opcodeOf_ofPop (p : RegPair) : opcodeOf (Instr.ofPop p) = opPop (pairCode p) := by
  cases p <;> rfl

theorem opcodeOf_ofJcc (cond : Cond) (a16 : Word) : opcodeOf (Instr.ofJcc cond a16) = opJcc (condCode cond) := by
  cases cond <;> rfl

theorem opcodeOf_ofCcc (cond : Cond) (a16 : Word) : opcodeOf (Instr.ofCcc cond a16) = opCcc (condCode cond) := by
  cases cond <;> rfl

theorem opcodeOf_ofRcc (cond : Cond) : opcodeOf (Instr.ofRcc cond) = opRcc (condCode cond) := by
  cases cond <;> rfl

theorem opcodeOf_ofRst (n : BitVec 3) : opcodeOf (Instr.ofRst n) = opRst n := by
  revert n
  exact Machine.restart_cases rfl rfl rfl rfl rfl rfl rfl rfl

/-- Settles O4: the codes by their tables, the families by their opcode bytes, and the instructions with no field by the
value itself. -/
theorem opcodeFields : Obligations.OpcodeFields :=
  ⟨rfl, rfl, rfl, rfl, rfl, opcodeOf_ofMov, opcodeOf_ofMovFromMem, opcodeOf_ofMovToMem, opcodeOf_ofMvi, opcodeOf_ofInr,
    opcodeOf_ofDcr, opcodeOf_ofAlu_reg, opcodeOf_ofAlu_mem, opcodeOf_ofAlu_imm, opcodeOf_ofLxi, opcodeOf_ofInx,
    opcodeOf_ofDcx, opcodeOf_ofDad, opcodeOf_ofPush, opcodeOf_ofPop, opcodeOf_ofJcc, opcodeOf_ofCcc, opcodeOf_ofRcc,
    opcodeOf_ofRst, fun _ => rfl, rfl, rfl, rfl, rfl, rfl, rfl, rfl, rfl,
    fun _ => rfl, fun _ => rfl, fun _ => rfl, fun _ => rfl,
    rfl, rfl, rfl, rfl, rfl, rfl, rfl, rfl, rfl, rfl, rfl, rfl,
    fun _ => rfl, fun _ => rfl, fun _ => rfl, fun _ => rfl, rfl, rfl, rfl, rfl, rfl⟩

/-! ## The map's entry at the bytes of an instruction (R89) -/

/-- The entry of the opcode map at an instruction's own bytes is that instruction, a missing operand byte read as 0. -/
def DecodesBack (i : Instr) : Prop :=
  decodeOp (opcodeOf i) ((operandBytes i).getD 0 0) ((operandBytes i).getD 1 0) = i

/-- An instruction with an 8-bit operand, from the entry of its opcode byte. -/
theorem decodesBack_of_byte {f : Byte → Instr} {op : Byte} (opcode : ∀ v, opcodeOf (f v) = op)
    (operands : ∀ v, operandBytes (f v) = [v]) (entry : ∀ v, decodeOp op v 0 = f v) (v : Byte) :
    DecodesBack (f v) := by
  rw [DecodesBack, opcode, operands]
  exact entry v

/-- An instruction with a 16-bit operand, from the entry of its opcode byte. -/
theorem decodesBack_of_word {f : Word → Instr} {op : Byte} (opcode : ∀ v, opcodeOf (f v) = op)
    (operands : ∀ v, operandBytes (f v) = imm16Bytes v) (entry : ∀ b1 b2, decodeOp op b1 b2 = f (imm16 b1 b2))
    (v : Word) : DecodesBack (f v) := by
  rw [DecodesBack, opcode, operands, entry]
  exact congrArg f (imm16_imm16Bytes v)

theorem decodesBack_ofMvi (dst : Reg) (d8 : Byte) : DecodesBack (Instr.ofMvi dst d8) :=
  decodesBack_of_byte (opcodeOf_ofMvi dst) (by cases dst <;> exact fun _ => rfl) (by cases dst <;> exact fun _ => rfl) d8

theorem decodesBack_ofAlu (op : AluOp) (v : Src) : DecodesBack (Instr.ofAlu op v) := by
  cases v with
  | reg r => cases op <;> cases r <;> rfl
  | mem => cases op <;> rfl
  | imm d8 =>
    exact decodesBack_of_byte (opcodeOf_ofAlu_imm op) (by cases op <;> exact fun _ => rfl)
      (by cases op <;> exact fun _ => rfl) d8

theorem decodesBack_ofLxi (p : Pair16) (d16 : Word) : DecodesBack (Instr.ofLxi p d16) :=
  decodesBack_of_word (opcodeOf_ofLxi p) (by cases p <;> exact fun _ => rfl) (by cases p <;> exact fun _ _ => rfl) d16

theorem decodesBack_ofJcc (cond : Cond) (a16 : Word) : DecodesBack (Instr.ofJcc cond a16) :=
  decodesBack_of_word (opcodeOf_ofJcc cond) (by cases cond <;> exact fun _ => rfl)
    (by cases cond <;> exact fun _ _ => rfl) a16

theorem decodesBack_ofCcc (cond : Cond) (a16 : Word) : DecodesBack (Instr.ofCcc cond a16) :=
  decodesBack_of_word (opcodeOf_ofCcc cond) (by cases cond <;> exact fun _ => rfl)
    (by cases cond <;> exact fun _ _ => rfl) a16

theorem decodesBack_ofRst (n : BitVec 3) : DecodesBack (Instr.ofRst n) := by
  revert n
  refine Machine.restart_cases ?_ ?_ ?_ ?_ ?_ ?_ ?_ ?_ <;> rfl

theorem decodesBack_undefinedRows : ∀ row ∈ Instr.undefinedRows, DecodesBack row.2 := by
  unfold DecodesBack
  decide

theorem decodesBack (i : Instr) : DecodesBack i := by
  induction i using Instr.family_cases with
  | ofMvi dst d8 => exact decodesBack_ofMvi dst d8
  | ofAlu_add v | ofAlu_adc v | ofAlu_sub v | ofAlu_sbb v | ofAlu_ana v | ofAlu_xra v | ofAlu_ora v | ofAlu_cmp v =>
    exact decodesBack_ofAlu _ v
  | ofLxi p d16 => exact decodesBack_ofLxi p d16
  | ofJcc cond a16 => exact decodesBack_ofJcc cond a16
  | ofCcc cond a16 => exact decodesBack_ofCcc cond a16
  | ofRst n => exact decodesBack_ofRst n
  | undefined op i row => exact decodesBack_undefinedRows (op, i) row
  | ofMov dst src => cases dst <;> cases src <;> rfl
  | ofMovFromMem r | ofMovToMem r | ofInr r | ofDcr r => cases r <;> rfl
  | ofInx p | ofDcx p | ofDad p | ofPush p | ofPop p => cases p <;> rfl
  | ofRcc cond => cases cond <;> rfl
  | mviM d8 => exact decodesBack_of_byte (op := 0x36) (fun _ => rfl) (fun _ => rfl) (fun _ => rfl) d8
  | outPort port => exact decodesBack_of_byte (op := 0xD3) (fun _ => rfl) (fun _ => rfl) (fun _ => rfl) port
  | inPort port => exact decodesBack_of_byte (op := 0xDB) (fun _ => rfl) (fun _ => rfl) (fun _ => rfl) port
  | shld a16 => exact decodesBack_of_word (op := 0x22) (fun _ => rfl) (fun _ => rfl) (fun _ _ => rfl) a16
  | lhld a16 => exact decodesBack_of_word (op := 0x2A) (fun _ => rfl) (fun _ => rfl) (fun _ _ => rfl) a16
  | sta a16 => exact decodesBack_of_word (op := 0x32) (fun _ => rfl) (fun _ => rfl) (fun _ _ => rfl) a16
  | lda a16 => exact decodesBack_of_word (op := 0x3A) (fun _ => rfl) (fun _ => rfl) (fun _ _ => rfl) a16
  | jmp a16 => exact decodesBack_of_word (op := 0xC3) (fun _ => rfl) (fun _ => rfl) (fun _ _ => rfl) a16
  | call a16 => exact decodesBack_of_word (op := 0xCD) (fun _ => rfl) (fun _ => rfl) (fun _ _ => rfl) a16
  | _ => rfl

/-! ## The operand bytes of the map's entry (R80, R86, R87) -/

/-- Of the two bytes after an opcode byte, those that it asks for (R80, R91). -/
def operandsTaken (op b1 b2 : Byte) : List Byte :=
  if instrLength op = 1 then [] else if instrLength op = 2 then [b1] else [b1, b2]

theorem operandsTaken_one {op : Byte} (one : instrLength op = 1) (b1 b2 : Byte) : operandsTaken op b1 b2 = [] := by
  simp [operandsTaken, one]

theorem operandsTaken_two {op : Byte} (two : instrLength op = 2) (b1 b2 : Byte) : operandsTaken op b1 b2 = [b1] := by
  simp [operandsTaken, two]

theorem operandsTaken_three {op : Byte} (three : instrLength op = 3) (b1 b2 : Byte) :
    operandsTaken op b1 b2 = [b1, b2] := by
  simp [operandsTaken, three]

/-- The entry in row `hi` and column `lo` has as many operand bytes as its opcode byte asks for, those it was given. -/
theorem opcodeMap_map_operandBytes (d8 : Byte) (d16 : Word) :
    (opcodeMap d8 d16).map (List.map operandBytes) =
      (List.range 16).map fun hi => (List.range 16).map fun lo =>
        if instrLength (BitVec.ofNat 8 (16 * hi + lo)) = 1 then []
        else if instrLength (BitVec.ofNat 8 (16 * hi + lo)) = 2 then [d8]
        else imm16Bytes d16 := rfl

theorem operandBytes_decodeOp (op b1 b2 : Byte) :
    operandBytes (decodeOp op b1 b2) = operandsTaken op b1 b2 := by
  have row_lt : op.toNat / 16 < 16 := by omega
  have column_lt : op.toNat % 16 < 16 := Nat.mod_lt _ (by decide)
  have place : BitVec.ofNat 8 (16 * (op.toNat / 16) + op.toNat % 16) = op := by
    rw [Nat.div_add_mod, BitVec.ofNat_toNat, BitVec.setWidth_eq]
  calc operandBytes (decodeOp op b1 b2)
      = (((opcodeMap b1 (imm16 b1 b2)).map (List.map operandBytes)).getD (op.toNat / 16) []).getD
          (op.toNat % 16) (operandBytes .nop) := by
        rw [decodeOp, ← List.getD_map (f := operandBytes), ← List.getD_map (f := List.map operandBytes), List.map_nil]
    _ = if instrLength op = 1 then [] else if instrLength op = 2 then [b1] else imm16Bytes (imm16 b1 b2) := by
        rw [opcodeMap_map_operandBytes]
        simp [List.getD_eq_getElem?_getD, row_lt, column_lt, place]
    _ = operandsTaken op b1 b2 := by
        rw [imm16Bytes_imm16, operandsTaken]

/-- The encoding of the map's entry is its opcode byte and the operand bytes that the opcode byte asks for. -/
theorem encode_decodeOp (op b1 b2 : Byte) :
    encode (decodeOp op b1 b2) = op :: operandsTaken op b1 b2 := by
  rw [encode, opcodeOf_decodeOp, operandBytes_decodeOp]

/-- An instruction has as many operand bytes as its opcode byte asks for. -/
theorem exists_operandBytes_eq (i : Instr) :
    ∃ b1 b2, operandBytes i = operandsTaken (opcodeOf i) b1 b2 := by
  have operands := operandBytes_decodeOp (opcodeOf i) ((operandBytes i).getD 0 0) ((operandBytes i).getD 1 0)
  rw [decodesBack i] at operands
  exact ⟨_, _, operands⟩

/-! ## The two round trips -/

/-- Settles O1: by the length of the opcode byte, the decoder takes the bytes of the instruction, and the map's entry at
them is the instruction. -/
theorem decodeOfEncode : Obligations.DecodeOfEncode := by
  intro i rest
  obtain ⟨b1, b2, operands⟩ := exists_operandBytes_eq i
  have entry : DecodesBack i := decodesBack i
  rw [DecodesBack, operands] at entry
  rw [encode, operands]
  obtain one | two | three := instrLength_cases (opcodeOf i)
  · rw [operandsTaken_one one] at entry ⊢
    exact (decode_one one rest).trans (congrArg (DecodeResult.ok · rest) entry)
  · rw [operandsTaken_two two] at entry ⊢
    exact (decode_two two b1 rest).trans (congrArg (DecodeResult.ok · rest) entry)
  · rw [operandsTaken_three three] at entry ⊢
    exact (decode_three three b1 b2 rest).trans (congrArg (DecodeResult.ok · rest) entry)

/-- Settles O2: by the length of the opcode byte, what the decoder takes is the encoding of the map's entry. -/
theorem encodeOfDecode : Obligations.EncodeOfDecode := by
  intro bytes i rest decoded
  cases bytes with
  | nil => cases decoded
  | cons op tail =>
    obtain one | two | three := instrLength_cases op
    · obtain ⟨rfl, rfl⟩ := DecodeResult.ok.inj ((decode_one one tail).symm.trans decoded)
      rw [encode_decodeOp, operandsTaken_one one]
      rfl
    · match tail with
      | [] => simp [decode, two] at decoded
      | b1 :: tail =>
        obtain ⟨rfl, rfl⟩ := DecodeResult.ok.inj ((decode_two two b1 tail).symm.trans decoded)
        rw [encode_decodeOp, operandsTaken_two two]
        rfl
    · match tail with
      | [] | [_] => simp [decode, three] at decoded
      | b1 :: b2 :: tail =>
        obtain ⟨rfl, rfl⟩ := DecodeResult.ok.inj ((decode_three three b1 b2 tail).symm.trans decoded)
        rw [encode_decodeOp, operandsTaken_three three]
        rfl

/-- Settles O5: each word is the encoding of its instruction, read off bit by bit. -/
theorem writtenWordsDecode : Obligations.WrittenWordsDecode :=
  ⟨decodeOfEncode (.mviA 0x05) [], decodeOfEncode (.mviB 0x03) [], decodeOfEncode .addB [], decodeOfEncode .inrA [],
    decodeOfEncode .undefined08 [], decodeOfEncode .movCB [], decodeOfEncode (.lxiSp 0x2400) [],
    decodeOfEncode (.ani 0x03) [], decodeOfEncode (.jnz 0x0200) [], decodeOfEncode (.call 0x0200) [],
    decodeOfEncode .pushPsw [], decodeOfEncode .hlt [], decodeOfEncode (.inPort 0x01) []⟩

/-! ## The rows UNDEFINED (R90) -/

theorem implemented_eq_false_iff (op : Byte) : Config.implemented op = false ↔ op ∈ Config.undefinedOpcodes := by
  simp [Config.implemented]

/-- The rows UNDEFINED are the map's entries at the undefined opcode values, whatever bytes follow. -/
theorem undefinedRows_eq_map_decodeOp (b1 b2 : Byte) :
    Instr.undefinedRows = Config.undefinedOpcodes.map fun op => (op, decodeOp op b1 b2) := rfl

/-- An instruction whose opcode is not implemented is the entry of that opcode, so a row UNDEFINED. -/
theorem mem_undefinedRows_of_not_wellFormed {i : Instr} (illFormed : ¬ WellFormed i) :
    (opcodeOf i, i) ∈ Instr.undefinedRows := by
  have undefined : opcodeOf i ∈ Config.undefinedOpcodes :=
    (implemented_eq_false_iff _).mp (Bool.eq_false_of_not_eq_true illFormed)
  have row (b1 b2 : Byte) : (opcodeOf i, decodeOp (opcodeOf i) b1 b2) ∈ Instr.undefinedRows := by
    rw [undefinedRows_eq_map_decodeOp b1 b2]
    exact List.mem_map_of_mem undefined
  have entry := row ((operandBytes i).getD 0 0) ((operandBytes i).getD 1 0)
  rwa [decodesBack i] at entry

theorem encode_undefinedRows : ∀ row ∈ Instr.undefinedRows, encode row.2 = [row.1] := by decide

/-- Settles O6: an ill-formed instruction is the map's entry of an undefined value, and each of these is one byte long. -/
theorem undefinedOpcodesAreTheTwelve : Obligations.UndefinedOpcodesAreTheTwelve := by
  refine ⟨fun i => ⟨mem_undefinedRows_of_not_wellFormed, fun row => ?_⟩, fun op i row => ?_, rfl⟩
  · obtain ⟨-, -, -, -, -, -, illFormed⟩ := Machine.undefined_tables row
    exact illFormed
  · have bytes : encode i = [op] := encode_undefinedRows (op, i) row
    have decoded := decodeOfEncode i []
    rw [List.append_nil, bytes] at decoded
    exact ⟨bytes, decoded⟩

end Sys2Proof
end

