-- ==== Sys2Proof/Proofs/ControlState.lean ====
section
/-! What an instruction does to the state of the run (10_state.md section 5, 40_engine_cycle.md): every instruction answers
a next state; but for EI, DI, HLT, IN and the rows UNDEFINED it keeps INTE, the status, the bound of the image and the draw
counter; and one that is no transfer of control ends at the next instruction. -/

namespace Sys2Proof

theorem encode_ofAlu_length (op : AluOp) (v : Src) : (encode (Instr.ofAlu op v)).length = Machine.srcWidth v := by
  cases v with
  | reg r => cases op <;> cases r <;> rfl
  | mem => cases op <;> rfl
  | imm d8 => cases op <;> rfl

namespace Machine

/-- Every meaning answers a next state. -/
theorem exec_total (i : Instr) (s : State) : ∃ t, exec i s = .next t := by
  cases i <;> exact ⟨_, rfl⟩

/-- An instruction answers one state. -/
theorem eq_of_exec_eq {i : Instr} {s t u : State} (exec_eq : exec i s = .next u) (run : exec i s = .next t) : u = t :=
  Host.Outcome.next.inj (exec_eq.symm.trans run)

/-- What holds between a state and the one that `f` makes of it holds between the states before and after an instruction
that answers `f` of the state. -/
theorem related_of_exec_eq {i : Instr} {f : State → State} {R : State → State → Prop}
    (exec_eq : ∀ s, exec i s = .next (f s)) (related : ∀ s, R s (f s)) (s t : State) (run : exec i s = .next t) :
    R s t :=
  eq_of_exec_eq (exec_eq s) run ▸ related s

/-! ## The ALU, whatever the operation -/

/-- The state that an ALU operation answers. -/
def aluOf (op : AluOp) (v : Src) (s : State) : State :=
  match op with
  | .add => aluAdd v s
  | .adc => aluAddCarry v s
  | .sub => aluSub v s
  | .sbb => aluSubBorrow v s
  | .ana => aluAnd v s
  | .xra => aluXor v s
  | .ora => aluOr v s
  | .cmp => aluCompare v s

theorem exec_ofAlu (op : AluOp) (v : Src) (s : State) : exec (Instr.ofAlu op v) s = .next (aluOf op v s) := by
  cases op with
  | add => exact exec_ofAlu_add v s
  | adc => exact exec_ofAlu_adc v s
  | sub => exact exec_ofAlu_sub v s
  | sbb => exact exec_ofAlu_sbb v s
  | ana => exact exec_ofAlu_ana v s
  | xra => exact exec_ofAlu_xra v s
  | ora => exact exec_ofAlu_ora v s
  | cmp => exact exec_ofAlu_cmp v s

/-- Every ALU operation writes A, the flags and `PC`, and nothing else; CMP writes A with what it holds. -/
theorem exists_aluOf_eq (op : AluOp) (v : Src) (s : State) :
    ∃ a flags, aluOf op v s = { s with a := a, flags := flags, pc := nextPc (srcWidth v) s } ∧
      (op = .cmp → a = s.a) := by
  cases op with
  | cmp => exact ⟨s.a, _, rfl, fun _ => rfl⟩
  | _ => exact ⟨_, _, rfl, nofun⟩

/-! ## INTE, the status, the bound of the image and the draws -/

/-- The fields that only the control instructions, IN and the exception write. -/
def SameControl (s t : State) : Prop :=
  t.inte = s.inte ∧ t.status = s.status ∧ t.imageEnd = s.imageEnd ∧ t.inDraws = s.inDraws

theorem sameControl_aluOf (op : AluOp) (v : Src) (s : State) : SameControl s (aluOf op v s) := by
  obtain ⟨a, flags, eq, -⟩ := exists_aluOf_eq op v s
  rw [eq]
  exact ⟨rfl, rfl, rfl, rfl⟩

theorem sameControl_jumpIf (cond : Cond) (target : Word) (s : State) : SameControl s (jumpIf cond target s) := by
  rw [jumpIf_eq]
  exact ⟨rfl, rfl, rfl, rfl⟩

theorem sameControl_callIf (cond : Cond) (target : Word) (s : State) : SameControl s (callIf cond target s) := by
  unfold callIf
  split_ifs <;> exact ⟨rfl, rfl, rfl, rfl⟩

theorem sameControl_returnIf (cond : Cond) (s : State) : SameControl s (returnIf cond s) := by
  unfold returnIf
  split_ifs <;> exact ⟨rfl, rfl, rfl, rfl⟩

/-- The instructions that may write one of the four fields are EI, DI, HLT, IN and the rows UNDEFINED. -/
theorem exec_sameControl {i : Instr} (notEi : i ≠ .ei) (notDi : i ≠ .di) (notHlt : i ≠ .hlt)
    (notIn : ∀ port, i ≠ .inPort port) (wellFormed : WellFormed i) :
    ∀ s t, exec i s = .next t → SameControl s t := by
  induction i using Instr.family_cases with
  | ei => exact absurd rfl notEi
  | di => exact absurd rfl notDi
  | hlt => exact absurd rfl notHlt
  | inPort port => exact absurd rfl (notIn port)
  | undefined op i row =>
    obtain ⟨-, -, -, -, -, -, illFormed⟩ := undefined_tables row
    exact absurd wellFormed illFormed
  | ofMov dst src => exact related_of_exec_eq (exec_ofMov dst src) (by simp [SameControl, loadReg])
  | ofMovFromMem dst => exact related_of_exec_eq (exec_ofMovFromMem dst) (by simp [SameControl, loadReg])
  | ofMovToMem src => exact related_of_exec_eq (exec_ofMovToMem src) (by simp [SameControl, storeAtHl])
  | ofMvi dst d8 => exact related_of_exec_eq (exec_ofMvi dst d8) (by simp [SameControl, loadReg])
  | ofLxi p d16 => exact related_of_exec_eq (exec_ofLxi p d16) (by simp [SameControl])
  | ofInr r => exact related_of_exec_eq (exec_ofInr r) (by simp [SameControl, incrementReg])
  | ofDcr r => exact related_of_exec_eq (exec_ofDcr r) (by simp [SameControl, decrementReg])
  | ofInx p => exact related_of_exec_eq (exec_ofInx p) (by simp [SameControl, incrementPair])
  | ofDcx p => exact related_of_exec_eq (exec_ofDcx p) (by simp [SameControl, decrementPair])
  | ofDad p => exact related_of_exec_eq (exec_ofDad p) (by simp [SameControl, doubleAdd])
  | ofAlu_add v | ofAlu_adc v | ofAlu_sub v | ofAlu_sbb v | ofAlu_ana v | ofAlu_xra v | ofAlu_ora v | ofAlu_cmp v =>
    exact related_of_exec_eq (exec_ofAlu _ v) (sameControl_aluOf _ v)
  | ofJcc cond a16 => exact related_of_exec_eq (exec_ofJcc cond a16) (sameControl_jumpIf cond a16)
  | ofCcc cond a16 => exact related_of_exec_eq (exec_ofCcc cond a16) (sameControl_callIf cond a16)
  | ofRcc cond => exact related_of_exec_eq (exec_ofRcc cond) (sameControl_returnIf cond)
  | ofRst n => exact related_of_exec_eq (exec_ofRst n) (by simp [SameControl, callTo])
  | ofPush p => exact related_of_exec_eq (exec_ofPush p) (by simp [SameControl])
  | ofPop p => exact related_of_exec_eq (exec_ofPop p) (by simp [SameControl])
  | staxB | staxD | shld | sta | inrM | dcrM | mviM | xthl | call | pushPsw =>
    exact related_of_exec_eq (fun _ => rfl)
      (by simp [SameControl, incrementMem, decrementMem, storeAtHl, exchangeStackHl, callTo])
  -- Outside a family no operand names a register or a condition, so each field reduces to itself.
  | _ => exact related_of_exec_eq (fun _ => rfl) (fun _ => ⟨rfl, rfl, rfl, rfl⟩)

theorem exec_hlt (s : State) : exec .hlt s = .next (setStatus .halted (advance 1 s)) := rfl

theorem exec_inPort (port : Byte) (s : State) :
    exec (.inPort port) s = .next (advance 2 (writeReg .a (Config.inValue s.inDraws port) (takeDraw s))) := rfl

/-- Settles O28: the five kinds of instruction that write one of the fields each by its meaning, every other instruction
keeps them. -/
theorem controlStateKept : Obligations.ControlStateKept := by
  intro i s t run
  by_cases isEi : i = .ei
  · subst isEi
    obtain rfl := eq_of_exec_eq (exec_ei s) run
    exact ⟨rfl, rfl, rfl, nofun, fun _ => rfl⟩
  by_cases isDi : i = .di
  · subst isDi
    obtain rfl := eq_of_exec_eq (exec_di s) run
    exact ⟨rfl, rfl, rfl, nofun, fun _ => rfl⟩
  by_cases isHlt : i = .hlt
  · subst isHlt
    obtain rfl := eq_of_exec_eq (exec_hlt s) run
    exact ⟨rfl, rfl, rfl, nofun, fun _ => rfl⟩
  by_cases isIn : ∃ port, i = .inPort port
  · obtain ⟨port, rfl⟩ := isIn
    obtain rfl := eq_of_exec_eq (exec_inPort port s) run
    exact ⟨rfl, rfl, rfl, fun _ _ => rfl, fun notIn => absurd rfl (notIn port)⟩
  have notIn : ∀ port, i ≠ .inPort port := not_exists.mp isIn
  by_cases wellFormed : WellFormed i
  · obtain ⟨inte, status, imageEnd, draws⟩ := exec_sameControl isEi isDi isHlt notIn wellFormed s t run
    simp [isEi, isDi, isHlt, notIn, wellFormed, inte, status, imageEnd, draws]
  · have raised := exec_undefined (mem_undefinedRows_of_not_wellFormed wellFormed) s
    obtain rfl := eq_of_exec_eq raised run
    simp [isEi, isDi, isHlt, notIn, wellFormed]

/-- An instruction the block executes keeps the status, but for HLT (R353, R372). -/
theorem status_of_exec {i : Instr} {s t : State} (wellFormed : WellFormed i) (run : exec i s = .next t) :
    t.status = if i = .hlt then .halted else s.status := by
  obtain ⟨-, status, -⟩ := controlStateKept i s t run
  rwa [if_pos wellFormed] at status

theorem imageEnd_of_exec {i : Instr} {s t : State} (run : exec i s = .next t) : t.imageEnd = s.imageEnd := by
  obtain ⟨-, -, imageEnd, -⟩ := controlStateKept i s t run
  exact imageEnd

/-! ## The next instruction -/

theorem aluOf_pc (op : AluOp) (v : Src) (s : State) : (aluOf op v s).pc = nextPc (srcWidth v) s := by
  obtain ⟨a, flags, eq, -⟩ := exists_aluOf_eq op v s
  rw [eq]

/-- An instruction of `width` bytes that ends at the next one. -/
theorem pc_of_exec_eq {i : Instr} {f : State → State} {width : Nat} (exec_eq : ∀ s, exec i s = .next (f s))
    (length : (encode i).length = width) (next : ∀ s, (f s).pc = nextPc width s) :
    ∀ s t, exec i s = .next t → t.pc = nextPc (encode i).length s :=
  related_of_exec_eq exec_eq (fun s => length ▸ next s)

theorem pc_of_mayLeaveSequence_eq_false {i : Instr} (sequential : mayLeaveSequence i = false) :
    ∀ s t, exec i s = .next t → t.pc = nextPc (encode i).length s := by
  induction i using Instr.family_cases with
  | ofMov dst src =>
    exact pc_of_exec_eq (width := 1) (exec_ofMov dst src) (by cases dst <;> cases src <;> rfl)
      (by simp [loadReg, nextPc])
  | ofMovFromMem dst =>
    exact pc_of_exec_eq (width := 1) (exec_ofMovFromMem dst) (by cases dst <;> rfl) (by simp [loadReg, nextPc])
  | ofMovToMem src =>
    exact pc_of_exec_eq (width := 1) (exec_ofMovToMem src) (by cases src <;> rfl) (fun _ => rfl)
  | ofMvi dst d8 =>
    exact pc_of_exec_eq (width := 2) (exec_ofMvi dst d8) (by cases dst <;> rfl) (by simp [loadReg, nextPc])
  | ofLxi p d16 => exact pc_of_exec_eq (width := 3) (exec_ofLxi p d16) (by cases p <;> rfl) (by simp [nextPc])
  | ofInr r =>
    exact pc_of_exec_eq (width := 1) (exec_ofInr r) (by cases r <;> rfl) (by simp [incrementReg, nextPc])
  | ofDcr r =>
    exact pc_of_exec_eq (width := 1) (exec_ofDcr r) (by cases r <;> rfl) (by simp [decrementReg, nextPc])
  | ofInx p =>
    exact pc_of_exec_eq (width := 1) (exec_ofInx p) (by cases p <;> rfl) (by simp [incrementPair, nextPc])
  | ofDcx p =>
    exact pc_of_exec_eq (width := 1) (exec_ofDcx p) (by cases p <;> rfl) (by simp [decrementPair, nextPc])
  | ofDad p =>
    exact pc_of_exec_eq (width := 1) (exec_ofDad p) (by cases p <;> rfl) (by simp [doubleAdd, nextPc])
  | ofAlu_add v | ofAlu_adc v | ofAlu_sub v | ofAlu_sbb v | ofAlu_ana v | ofAlu_xra v | ofAlu_ora v | ofAlu_cmp v =>
    exact pc_of_exec_eq (exec_ofAlu _ v) (encode_ofAlu_length _ v) (aluOf_pc _ v)
  | ofPush p => exact pc_of_exec_eq (width := 1) (exec_ofPush p) (by cases p <;> rfl) (fun _ => rfl)
  | ofPop p => exact pc_of_exec_eq (width := 1) (exec_ofPop p) (by cases p <;> rfl) (by simp [nextPc])
  | ofJcc | ofCcc | ofRcc | ofRst => simp at sequential
  | jmp | ret | call | pchl => cases sequential
  | undefined op i row =>
    obtain ⟨-, -, -, -, leaves, -, -⟩ := undefined_tables row
    exact absurd sequential (by simp [leaves])
  -- Outside a family the length is a numeral, and the meaning moves `PC` by that numeral.
  | _ => exact pc_of_exec_eq (fun _ => rfl) rfl (fun _ => rfl)

/-- Settles O29: the next instruction's address as the sum modulo 2^16. -/
theorem sequentialProgramCounter : Obligations.SequentialProgramCounter := by
  intro i s t run sequential
  rw [pc_of_mayLeaveSequence_eq_false sequential s t run, nextPc, BitVec.toNat_add, BitVec.toNat_ofNat, Nat.add_mod_mod]

/-! ## The step -/

/-- A running machine steps. -/
theorem step_total_of_running {s : State} (running : s.status = .running) : ∃ t, step s = .next t := by
  cases ended : atImageEnd s with
  | true => exact ⟨_, step_of_atImageEnd running ended⟩
  | false =>
    cases implemented : Config.implemented (fetchOpcode s) with
    | true => exact step_of_implemented running ended implemented ▸ exec_total (fetchInstr s) s
    | false => exact ⟨_, step_of_unimplemented running ended implemented⟩

/-- Settles O19: every meaning and every step of a running machine answers a next state, with the status that
ControlStateKept gives it. -/
theorem nothingElseIsAnException : Obligations.NothingElseIsAnException := by
  refine ⟨fun i s => ?_, fun s running => step_total_of_running running⟩
  obtain ⟨t, run⟩ := exec_total i s
  exact ⟨t, run, fun wellFormed => status_of_exec wellFormed run⟩

end Machine

end Sys2Proof
end

