-- ==== Sys2Proof/Proofs/Stores.lean ====
section
/-! The bytes that an instruction stores to (20_memory.md): outside them memory reads as before, and the canonical form of
memory is kept. -/

namespace Sys2Proof

namespace Machine

/-- Memory differs at the addresses of `stored` at most, and keeps its canonical form. -/
def StoresOnly (stored : List Word) (s t : State) : Prop :=
  SameMemoryBut stored s t ∧ (Memory.wf s.mem = true → Memory.wf t.mem = true)

theorem storesOnly_of_mem_eq {stored : List Word} {s t : State} (same : t.mem = s.mem) : StoresOnly stored s t :=
  ⟨fun a _ => congrArg (Memory.read · a) same, fun wf => same ▸ wf⟩

/-- One byte stored, whatever is written to other fields. -/
theorem storesOnly_store (x : Word) {v : Byte} {s t : State} (stores : t.mem = Memory.write s.mem x v) :
    StoresOnly [x] s t := by
  refine ⟨fun a outside => ?_, fun wf => stores ▸ Memory.wf_write x v wf⟩
  rw [readMem, stores, Memory.read_write, if_neg (List.ne_of_not_mem_cons outside), readMem]

theorem StoresOnly.mono {stored more : List Word} {s t : State} (stores : StoresOnly stored s t)
    (included : stored ⊆ more) : StoresOnly more s t :=
  ⟨fun a outside => stores.1 a (fun listed => outside (included listed)), stores.2⟩

/-- Two stores after each other. -/
theorem StoresOnly.trans {stored : List Word} {s t u : State} (first : StoresOnly stored s t)
    (second : StoresOnly stored t u) : StoresOnly stored s u :=
  ⟨fun a outside => (second.1 a outside).trans (first.1 a outside), fun wf => second.2 (first.2 wf)⟩

theorem storesOnly_writeMem (x : Word) (v : Byte) (s : State) : StoresOnly [x] s (writeMem x v s) :=
  storesOnly_store x rfl

theorem storesOnly_push16 (v : Word) (s : State) : StoresOnly [s.sp - 1, s.sp - 2] s (push16 v s) :=
  ((storesOnly_writeMem (s.sp - 1) (highByte v) s).mono (by simp)).trans
    ((storesOnly_store (s.sp - 2) rfl).mono (by simp))

theorem storesOnly_writeMem16 (x v : Word) (s : State) : StoresOnly [x, x + 1] s (writeMem16 x v s) :=
  ((storesOnly_writeMem x (lowByte v) s).mono (by simp)).trans ((storesOnly_store (x + 1) rfl).mono (by simp))

/-- What is written to other fields after a store makes no difference to it. -/
theorem StoresOnly.of_mem_eq {stored : List Word} {s t u : State} (stores : StoresOnly stored s t) (same : u.mem = t.mem) :
    StoresOnly stored s u :=
  stores.trans (storesOnly_of_mem_eq same)

theorem storesOnly_aluOf (op : AluOp) (v : Src) (s : State) : StoresOnly [] s (aluOf op v s) := by
  obtain ⟨a, flags, eq, -⟩ := exists_aluOf_eq op v s
  exact storesOnly_of_mem_eq (by rw [eq])

theorem storesOnly_jumpIf (cond : Cond) (target : Word) (s : State) : StoresOnly [] s (jumpIf cond target s) :=
  storesOnly_of_mem_eq (by rw [jumpIf_eq])

theorem storesOnly_callTo (target : Word) (width : Nat) (s : State) :
    StoresOnly [s.sp - 1, s.sp - 2] s (callTo target width s) :=
  (storesOnly_push16 (nextPc width s) s).of_mem_eq rfl

theorem storesOnly_callIf (cond : Cond) (target : Word) (s : State) :
    StoresOnly (if condHolds cond s.flags then [s.sp - 1, s.sp - 2] else []) s (callIf cond target s) := by
  unfold callIf
  split_ifs
  · exact storesOnly_callTo target 3 s
  · exact storesOnly_of_mem_eq rfl

theorem storesOnly_returnIf (cond : Cond) (s : State) : StoresOnly [] s (returnIf cond s) := by
  unfold returnIf
  split_ifs <;> exact storesOnly_of_mem_eq rfl

/-- An instruction that answers `f` of the state stores what its table says when `f` does. -/
theorem stores_of_exec_eq {i : Instr} {f : State → State} {stored : State → List Word}
    (exec_eq : ∀ s, exec i s = .next (f s)) (table : ∀ s, storedBytes i s = stored s)
    (stores : ∀ s, StoresOnly (stored s) s (f s)) :
    ∀ s t, exec i s = .next t → StoresOnly (storedBytes i s) s t :=
  related_of_exec_eq exec_eq fun s => (table s).symm ▸ stores s

/-- An instruction whose meaning writes no memory. -/
theorem stores_of_exec_eq_of_mem_eq {i : Instr} {f : State → State} (exec_eq : ∀ s, exec i s = .next (f s))
    (same : ∀ s, (f s).mem = s.mem) : ∀ s t, exec i s = .next t → StoresOnly (storedBytes i s) s t :=
  related_of_exec_eq exec_eq fun s => storesOnly_of_mem_eq (same s)

theorem exec_storesOnly (i : Instr) : ∀ s t, exec i s = .next t → StoresOnly (storedBytes i s) s t := by
  induction i using Instr.family_cases with
  | ofMov dst src => exact stores_of_exec_eq_of_mem_eq (exec_ofMov dst src) (by simp [loadReg])
  | ofMovFromMem dst => exact stores_of_exec_eq_of_mem_eq (exec_ofMovFromMem dst) (by simp [loadReg])
  | ofMovToMem src =>
    exact stores_of_exec_eq (exec_ofMovToMem src) (storedBytes_ofMovToMem src)
      fun s => storesOnly_store (readPair .hl s) rfl
  | ofMvi dst d8 => exact stores_of_exec_eq_of_mem_eq (exec_ofMvi dst d8) (by simp [loadReg])
  | ofLxi p d16 => exact stores_of_exec_eq_of_mem_eq (exec_ofLxi p d16) (by simp)
  | ofInr r => exact stores_of_exec_eq_of_mem_eq (exec_ofInr r) (by simp [incrementReg])
  | ofDcr r => exact stores_of_exec_eq_of_mem_eq (exec_ofDcr r) (by simp [decrementReg])
  | ofInx p => exact stores_of_exec_eq_of_mem_eq (exec_ofInx p) (by simp [incrementPair])
  | ofDcx p => exact stores_of_exec_eq_of_mem_eq (exec_ofDcx p) (by simp [decrementPair])
  | ofDad p => exact stores_of_exec_eq_of_mem_eq (exec_ofDad p) (by simp [doubleAdd])
  | ofAlu_add v | ofAlu_adc v | ofAlu_sub v | ofAlu_sbb v | ofAlu_ana v | ofAlu_xra v | ofAlu_ora v | ofAlu_cmp v =>
    exact stores_of_exec_eq (exec_ofAlu _ v) (by simp) (storesOnly_aluOf _ v)
  | ofJcc cond a16 => exact stores_of_exec_eq (exec_ofJcc cond a16) (by simp) (storesOnly_jumpIf cond a16)
  | ofCcc cond a16 => exact stores_of_exec_eq (exec_ofCcc cond a16) (by simp) (storesOnly_callIf cond a16)
  | ofRcc cond => exact stores_of_exec_eq (exec_ofRcc cond) (by simp) (storesOnly_returnIf cond)
  | ofRst n => exact stores_of_exec_eq (exec_ofRst n) (by simp) (storesOnly_callTo (restartTarget n) 1)
  | ofPush p =>
    exact stores_of_exec_eq (exec_ofPush p) (by simp) fun s => (storesOnly_push16 (readPair p s) s).of_mem_eq rfl
  | ofPop p => exact stores_of_exec_eq_of_mem_eq (exec_ofPop p) (by simp)
  | undefined op i row => exact stores_of_exec_eq_of_mem_eq (exec_undefined row) (by simp)
  | staxB => exact stores_of_exec_eq (fun _ => rfl) (fun _ => rfl) fun s => storesOnly_store (readPair .bc s) rfl
  | staxD => exact stores_of_exec_eq (fun _ => rfl) (fun _ => rfl) fun s => storesOnly_store (readPair .de s) rfl
  | inrM | dcrM | mviM =>
    exact stores_of_exec_eq (fun _ => rfl) (fun _ => rfl) fun s => storesOnly_store (readPair .hl s) rfl
  | sta a16 => exact stores_of_exec_eq (fun _ => rfl) (fun _ => rfl) fun _ => storesOnly_store a16 rfl
  | shld a16 =>
    exact stores_of_exec_eq (fun _ => rfl) (fun _ => rfl)
      fun s => (storesOnly_writeMem16 a16 (readPair .hl s) s).of_mem_eq rfl
  | xthl =>
    exact stores_of_exec_eq (fun _ => rfl) (fun _ => rfl)
      fun s => (storesOnly_writeMem16 s.sp (readPair .hl s) s).of_mem_eq rfl
  | call a16 => exact stores_of_exec_eq (fun _ => rfl) (fun _ => rfl) (storesOnly_callTo a16 3)
  | pushPsw =>
    exact stores_of_exec_eq (fun _ => rfl) (fun _ => rfl) fun s => (storesOnly_push16 (psw s) s).of_mem_eq rfl
  | _ => exact stores_of_exec_eq_of_mem_eq (fun _ => rfl) (fun _ => rfl)

/-- Settles O27: the part of the stores that speaks of the bytes outside them. -/
theorem memoryOutsideTheStoresKept : Obligations.MemoryOutsideTheStoresKept := fun i s t run =>
  (exec_storesOnly i s t run).1

/-- No instruction leaves the canonical form of memory. -/
theorem wf_of_exec {i : Instr} {s t : State} (run : exec i s = .next t) (wf : Memory.wf s.mem = true) :
    Memory.wf t.mem = true :=
  (exec_storesOnly i s t run).2 wf

end Machine

end Sys2Proof
end

