-- ==== Sys2Proof/Proofs/Invariant.lean ====
section
/-! Memory by its contents (20_memory.md), the launch (70_reset_and_hazards.md), and the invariant: it holds after reset and
after every launch, and every step keeps it. -/

namespace Sys2Proof

namespace Machine

/-! ## The canonical form of memory (log 9) -/

/-- What the canonical form says of its first cell, and that the cells after it are in canonical form above it. -/
theorem Memory.wfFrom_cons {lo k : Nat} {v : Byte} {rest : Memory} :
    Memory.wfFrom lo ((k, v) :: rest) = true ↔
      (lo ≤ k ∧ k < Config.memorySize ∧ v ≠ Memory.unlisted) ∧ Memory.wfFrom (k + 1) rest = true := by
  simp [Memory.wfFrom, and_assoc]

/-- Below the addresses of the canonical form no byte is listed. -/
theorem Memory.readAt_of_lt {lo a : Nat} {m : Memory} (wf : Memory.wfFrom lo m = true) (below : a < lo) :
    Memory.readAt a m = Memory.unlisted := by
  induction m generalizing lo with
  | nil => rfl
  | cons cell rest ih =>
    obtain ⟨k, v⟩ := cell
    obtain ⟨⟨le, -, -⟩, wfRest⟩ := Memory.wfFrom_cons.mp wf
    rw [Memory.readAt, if_neg (by omega)]
    exact ih wfRest (by omega)

theorem Memory.readAt_head (k : Nat) (v : Byte) (rest : Memory) : Memory.readAt k ((k, v) :: rest) = v :=
  if_pos rfl

/-- A memory reads something other than 0x00 at its first cell, so one that reads the same does not lie above that cell. -/
theorem Memory.not_wfFrom_above_head {lo k : Nat} {v : Byte} {rest n : Memory}
    (wf : Memory.wfFrom lo ((k, v) :: rest) = true) (same : Memory.readAt k ((k, v) :: rest) = Memory.readAt k n) :
    ¬ Memory.wfFrom (k + 1) n = true := by
  intro wfAbove
  obtain ⟨⟨-, -, listed⟩, -⟩ := Memory.wfFrom_cons.mp wf
  rw [Memory.readAt_head, Memory.readAt_of_lt wfAbove (Nat.lt_succ_self k)] at same
  exact listed same

/-- In canonical form the first cell is the lowest address that does not read 0x00, and so on through the list. -/
theorem Memory.eq_of_readAt_eq {lo : Nat} {m n : Memory} (wfM : Memory.wfFrom lo m = true)
    (wfN : Memory.wfFrom lo n = true) (same : ∀ a < Config.memorySize, Memory.readAt a m = Memory.readAt a n) :
    m = n := by
  induction m generalizing lo n with
  | nil =>
    cases n with
    | nil => rfl
    | cons cell n =>
      obtain ⟨⟨-, inside, -⟩, -⟩ := Memory.wfFrom_cons.mp wfN
      exact absurd rfl (Memory.not_wfFrom_above_head wfN (same cell.1 inside).symm)
  | cons cellM m ih =>
    obtain ⟨k, v⟩ := cellM
    obtain ⟨⟨-, insideM, listedM⟩, wfRestM⟩ := Memory.wfFrom_cons.mp wfM
    cases n with
    | nil => exact absurd rfl (Memory.not_wfFrom_above_head wfM (same k insideM))
    | cons cellN n =>
      obtain ⟨k', v'⟩ := cellN
      obtain ⟨⟨-, insideN, listedN⟩, wfRestN⟩ := Memory.wfFrom_cons.mp wfN
      have sameHead : k = k' := by
        by_contra differ
        obtain lower | higher := Nat.lt_or_gt_of_ne differ
        · exact Memory.not_wfFrom_above_head wfM (same k insideM)
            (Memory.wfFrom_cons.mpr ⟨⟨lower, insideN, listedN⟩, wfRestN⟩)
        · exact Memory.not_wfFrom_above_head wfN (same k' insideN).symm
            (Memory.wfFrom_cons.mpr ⟨⟨higher, insideM, listedM⟩, wfRestM⟩)
      subst sameHead
      have sameByte : v = v' := by
        simpa only [Memory.readAt_head] using same k insideM
      have sameRest : ∀ a < Config.memorySize, Memory.readAt a m = Memory.readAt a n := by
        intro a inside
        by_cases atHead : k = a
        · subst atHead
          rw [Memory.readAt_of_lt wfRestM (Nat.lt_succ_self k), Memory.readAt_of_lt wfRestN (Nat.lt_succ_self k)]
        · simpa only [Memory.readAt, if_neg atHead] using same a inside
      rw [sameByte, ih wfRestM wfRestN sameRest]

/-- Settles O10: an address of memory is a 16-bit value, so the two lists read the same at every listed address. -/
theorem memoryFormIsUnique : Obligations.MemoryFormIsUnique := by
  intro m n wfM wfN same
  refine Memory.eq_of_readAt_eq wfM wfN fun a inside => ?_
  have read : Memory.read m (BitVec.ofNat 16 a) = Memory.read n (BitVec.ofNat 16 a) := same (BitVec.ofNat 16 a)
  rwa [Memory.read, Memory.read, BitVec.toNat_ofNat, Nat.mod_eq_of_lt (show a < 2 ^ 16 from inside)] at read

/-! ## The launch (R400 to R405) -/

theorem launch_of_fits {entry : Word} {image : List Byte} (fits : entry.toNat + image.length ≤ Config.memorySize) :
    launch entry image = .next { State.reset with
      mem := Memory.load entry.toNat image State.reset.mem, pc := entry, imageEnd := entry.toNat + image.length } :=
  if_pos fits

theorem launch_of_not_fits {entry : Word} {image : List Byte}
    (exceeds : ¬ entry.toNat + image.length ≤ Config.memorySize) : launch entry image = .refused .imageDoesNotFit :=
  if_neg exceeds

/-- A launch that answers a state has an image that fits, and answers the loaded reset state. -/
theorem launch_eq_next {entry : Word} {image : List Byte} {t : State} (launched : launch entry image = .next t) :
    entry.toNat + image.length ≤ Config.memorySize ∧
      t = { State.reset with
        mem := Memory.load entry.toNat image State.reset.mem, pc := entry, imageEnd := entry.toNat + image.length } := by
  by_cases fits : entry.toNat + image.length ≤ Config.memorySize
  · rw [launch_of_fits fits] at launched
    exact ⟨fits, (Host.Outcome.next.inj launched).symm⟩
  · rw [launch_of_not_fits fits] at launched
    cases launched

/-- Settles O14: the two branches of the launch. -/
theorem launchStartsAtEntryOrIsRefused : Obligations.LaunchStartsAtEntryOrIsRefused := fun _ _ =>
  ⟨fun fits => ⟨_, launch_of_fits fits⟩, fun exceeds => launch_of_not_fits (Nat.not_le.mpr exceeds)⟩

/-- A byte read after a load is the image's byte for that address, or what was there before (R51). -/
theorem Memory.readAt_load (bytes : List Byte) (a x : Nat) (m : Memory) :
    Memory.readAt x (Memory.load a bytes m) =
      if a ≤ x then bytes.getD (x - a) (Memory.readAt x m) else Memory.readAt x m := by
  induction bytes generalizing a m with
  | nil => simp [Memory.load]
  | cons v vs ih =>
    rw [Memory.load, ih, Memory.readAt_writeAt]
    obtain below | rfl | above := Nat.lt_trichotomy x a
    · rw [if_neg (by omega), if_neg (by omega), if_neg (by omega)]
    · simp
    · obtain ⟨k, rfl⟩ := Nat.exists_eq_add_of_lt above
      rw [if_neg (show ¬ a + k + 1 = a by omega), if_pos (by omega), if_pos (by omega),
        show a + k + 1 - (a + 1) = k by omega, show a + k + 1 - a = k + 1 by omega, List.getD_cons_succ]

/-- Settles O12: every field of the reset state is the value written there. -/
theorem resetValues : Obligations.ResetValues :=
  ⟨rfl, rfl, rfl, rfl, rfl, rfl, rfl, rfl, rfl, rfl, rfl, fun n => by cases n <;> rfl, fun _ => rfl, rfl, rfl⟩

/-- Settles O13: an address inside the image is `ENTRY` plus its place without wrapping, because the image fits. -/
theorem launchLoadsImage : Obligations.LaunchLoadsImage := by
  refine ⟨fun _ => rfl, fun entry image t launched => ?_⟩
  obtain ⟨fits, rfl⟩ := launch_eq_next launched
  have read (a : Word) : readMem a { State.reset with
      mem := Memory.load entry.toNat image State.reset.mem, pc := entry, imageEnd := entry.toNat + image.length } =
      if entry.toNat ≤ a.toNat then image.getD (a.toNat - entry.toNat) 0x00 else 0x00 :=
    Memory.readAt_load image entry.toNat a.toNat State.reset.mem
  rw [Config.memorySize] at fits
  constructor
  · intro i inside
    have place : (entry + BitVec.ofNat 16 i).toNat = entry.toNat + i := by
      rw [BitVec.toNat_add, BitVec.toNat_ofNat, Nat.add_mod_mod, Nat.mod_eq_of_lt (by omega)]
    rw [read, place, if_pos (Nat.le_add_right _ _), Nat.add_sub_cancel_left, List.getD_eq_getElem _ _ inside]
  · intro a outside
    rw [read]
    obtain below | above := outside
    · rw [if_neg (by omega)]
    · rw [if_pos (by omega), List.getD_eq_default _ _ (by omega)]

/-! ## The invariant -/

/-- A running machine meets the invariant when its memory and the bound of its image do: the other clauses speak of ended
runs. -/
theorem inv_of_running {s : State} (running : s.status = .running) (memory : Memory.wf s.mem = true)
    (imageFits : s.imageEnd ≤ Config.memorySize) : Inv s :=
  ⟨memory, imageFits, by simp [running], by simp [running], by simp [running]⟩

/-- Settles O22: the reset state runs, with no cell of memory and an empty image. -/
theorem resetMeetsInv : Obligations.ResetMeetsInv :=
  inv_of_running rfl rfl (Nat.zero_le _)

/-- Settles O23: a launched state runs, and loading an image that fits keeps the canonical form. -/
theorem launchMeetsInv : Obligations.LaunchMeetsInv := by
  intro entry image t launched
  obtain ⟨fits, rfl⟩ := launch_eq_next launched
  exact inv_of_running rfl (Memory.wf_load fits rfl) fits

theorem imageEnd_le_of_atImageEnd {s : State} (ended : atImageEnd s = true) : s.imageEnd ≤ s.pc.toNat :=
  of_decide_eq_true ended

theorem lt_imageEnd_of_not_atImageEnd {s : State} (inside : atImageEnd s = false) : s.pc.toNat < s.imageEnd :=
  Nat.not_le.mp (of_decide_eq_false inside)

theorem inv_endAtBoundary {s : State} (inv : Inv s) (ended : atImageEnd s = true) : Inv (endAtBoundary s) :=
  ⟨inv.memory, inv.imageFits, fun _ => imageEnd_le_of_atImageEnd ended, nofun, nofun⟩

theorem inv_raiseUnimplemented {s : State} (inv : Inv s) (inside : atImageEnd s = false)
    (unimplemented : Config.implemented (fetchOpcode s) = false) : Inv (raiseUnimplemented (fetchOpcode s) s) := by
  refine ⟨inv.memory, inv.imageFits, nofun, nofun, fun addr op fault => ?_⟩
  obtain ⟨rfl, rfl⟩ := Status.fault.inj fault
  exact ⟨rfl, rfl, unimplemented, lt_imageEnd_of_not_atImageEnd inside⟩

/-- A HLT fetched inside the image stands in the byte before the next `PC`. -/
theorem inv_hlt {s : State} (inv : Inv s) (inside : atImageEnd s = false) (fetched : fetchInstr s = .hlt) :
    Inv (setStatus .halted (advance 1 s)) := by
  have opcode : readMem s.pc s = 0x76 := (opcodeOf_fetchInstr s).symm.trans (congrArg opcodeOf fetched)
  have back : s.pc + 1 - 1 = s.pc := BitVec.add_sub_cancel _ _
  refine ⟨inv.memory, inv.imageFits, nofun, fun _ => ?_, nofun⟩
  exact ⟨(congrArg (readMem · s) back).trans opcode,
    (congrArg BitVec.toNat back).trans_lt (lt_imageEnd_of_not_atImageEnd inside)⟩

/-- The fetched instruction is well formed exactly when its opcode byte is implemented. -/
theorem wellFormed_fetchInstr {s : State} (implemented : Config.implemented (fetchOpcode s) = true) :
    WellFormed (fetchInstr s) := by
  rw [WellFormed, opcodeOf_fetchInstr]
  exact implemented

/-- Settles O24: by what a step can do, and where it executes, by whether the instruction is HLT. -/
theorem stepKeepsInv : Obligations.StepKeepsInv := by
  intro s t inv stepped
  obtain ⟨running, did⟩ := step_cases stepped
  obtain ⟨ended, rfl⟩ | ⟨inside, implemented, run⟩ | ⟨inside, unimplemented, rfl⟩ := did
  · exact inv_endAtBoundary inv ended
  · by_cases isHlt : fetchInstr s = .hlt
    · rw [isHlt] at run
      exact eq_of_exec_eq (exec_hlt s) run ▸ inv_hlt inv inside isHlt
    · have status := status_of_exec (wellFormed_fetchInstr implemented) run
      rw [if_neg isHlt, running] at status
      exact inv_of_running status (wf_of_exec run inv.memory) (imageEnd_of_exec run ▸ inv.imageFits)
  · exact inv_raiseUnimplemented inv inside unimplemented

end Machine

end Sys2Proof
end

