-- ==== Sys2Proof/Proofs/StepAndRun.lean ====
section
/-! The step and the driving loop (40_engine_cycle.md): what the fetch decodes, how a run ends and stays ended, and what
each step reports. -/

namespace Sys2Proof

namespace Machine

/-! ## The fetch (R112, R113) -/

/-- The decoder, given the three bytes at `PC`, answers the instruction that the fetch does. -/
theorem exists_decode_bytesAtPc (s : State) : ∃ rest, decode (bytesAtPc s) = .ok (fetchInstr s) rest := by
  have opcode : fetchOpcode s = readMem s.pc s := rfl
  rw [bytesAtPc, ← opcode]
  obtain one | two | three := instrLength_cases (fetchOpcode s)
  · have fetched : fetchInstr s = decodeOp (fetchOpcode s) 0 0 := by simp [fetchInstr, one]
    exact ⟨_, fetched ▸ decode_one one _⟩
  · have fetched : fetchInstr s = decodeOp (fetchOpcode s) (readMem (s.pc + 1) s) 0 := by simp [fetchInstr, two]
    exact ⟨_, fetched ▸ decode_two two _ _⟩
  · have fetched : fetchInstr s = decodeOp (fetchOpcode s) (readMem (s.pc + 1) s) (readMem (s.pc + 2) s) := by
      simp [fetchInstr, three]
    exact ⟨_, fetched ▸ decode_three three _ _ _⟩

/-- Settles O15: the bytes at `PC` decode to the fetched instruction, whose opcode byte is implemented. -/
theorem stepRunsDecodedInstruction : Obligations.StepRunsDecodedInstruction := by
  intro s i rest running inside decoded wellFormed
  obtain ⟨rest', fetched⟩ := exists_decode_bytesAtPc s
  obtain ⟨rfl, -⟩ := DecodeResult.ok.inj (fetched.symm.trans decoded)
  rw [WellFormed, opcodeOf_fetchInstr] at wellFormed
  exact step_of_implemented running (decide_eq_false (Nat.not_le.mpr inside)) wellFormed

/-! ## How a run ends (R111, R114, R124) -/

/-- Settles O16: at the boundary by the step there; inside the image the step keeps the status, halts or faults. -/
theorem boundaryCheckEndsTheRun : Obligations.BoundaryCheckEndsTheRun := by
  intro s running
  refine ⟨fun ended => step_of_atImageEnd running (decide_eq_true ended), fun inside => ?_⟩
  obtain ⟨t, stepped⟩ := step_total_of_running running
  refine ⟨t, stepped, ?_⟩
  obtain ⟨-, ⟨ended, -⟩ | ⟨-, implemented, run⟩ | ⟨-, -, rfl⟩⟩ := step_cases stepped
  · exact absurd (imageEnd_le_of_atImageEnd ended) (Nat.not_le.mpr inside)
  · rw [status_of_exec (wellFormed_fetchInstr implemented) run, running]
    split <;> nofun
  · nofun

theorem step_of_fault {s : State} {addr : Word} {op : Byte} (ended : s.status = .fault addr op) :
    step s = .fault (.unimplementedOpcode addr op) := by
  simp [step, cycle, ended]

/-- Settles O17: a row UNDEFINED takes the exception, and so does the step that meets its opcode byte, which the next step
surfaces. -/
theorem unimplementedOpcodeEndsTheRun : Obligations.UnimplementedOpcodeEndsTheRun := by
  refine ⟨fun op i s row => exec_undefined row s, fun s running inside undefined => ⟨?_, step_of_fault rfl⟩⟩
  exact step_of_unimplemented running (decide_eq_false (Nat.not_le.mpr inside)) ((implemented_eq_false_iff _).mpr undefined)

/-- Settles O18: the three ended statuses by the cycle, and the step that answers a state by its cases. -/
theorem endedRunTakesNoStep : Obligations.EndedRunTakesNoStep := fun s =>
  ⟨fun ended => by simp [step, cycle, ended], fun ended => by simp [step, cycle, ended], fun _ _ => step_of_fault,
    fun _ stepped => (step_cases stepped).1⟩

/-! ## The driving loop (R122, R124) -/

theorem drive_succ_of_running {s t : State} (running : s.status = .running) (stepped : step s = .next t) (k : Nat) :
    drive (k + 1) s = drive k t := by
  simp [drive, running, stepped]

theorem drive_of_not_running {s : State} (ended : s.status ≠ .running) (k : Nat) : drive k s = .next s := by
  cases k with
  | zero => rfl
  | succ k =>
    rw [drive]
    split
    case h_1 running => exact absurd running ended
    all_goals rfl

/-- Settles O60: the loop by its two cases, and the outcome by the four statuses. -/
theorem drivingLoopStepsUntilTheRunEnds : Obligations.DrivingLoopStepsUntilTheRunEnds := by
  intro s
  refine ⟨rfl, fun running k => ?_, drive_of_not_running, ?_⟩
  · obtain ⟨t, stepped⟩ := step_total_of_running running
    exact ⟨t, stepped, drive_succ_of_running running stepped k⟩
  · cases status : s.status <;> simp [runOutcome, status]

/-- Settles O20: by induction on the fuel; the loop answers an ended state at once, or takes the same step in both runs. -/
theorem endedRunKeepsItsLastState : Obligations.EndedRunKeepsItsLastState := by
  intro k m s t driven ended
  induction k generalizing s with
  | zero =>
    obtain rfl := Host.Outcome.next.inj driven
    exact drive_of_not_running ended (0 + m)
  | succ k ih =>
    by_cases running : s.status = .running
    · obtain ⟨u, stepped⟩ := step_total_of_running running
      rw [drive_succ_of_running running stepped] at driven
      rw [Nat.succ_add, drive_succ_of_running running stepped]
      exact ih u driven
    · rw [drive_of_not_running running] at driven ⊢
      exact driven

/-! ## The trace (R118) -/

theorem traceEvent_of_step {s t : State} (stepped : step s = .next t) :
    traceEvent s =
      if s.status = .running ∧ atImageEnd s = false ∧ Config.implemented (fetchOpcode s) = true then
        some { pc0 := s.pc, op := fetchOpcode s, snapshot := snapshotOf t }
      else none := by
  rw [traceEvent, stepped]

/-- Settles O21: a step that answers a state comes from a running one, and the boundary check is the comparison of `PC` with
the bound. -/
theorem traceReportsExecutedInstructions : Obligations.TraceReportsExecutedInstructions := by
  intro s t stepped
  obtain ⟨running, -⟩ := step_cases stepped
  have inside : atImageEnd s = false ↔ s.pc.toNat < s.imageEnd := by
    rw [atImageEnd, decide_eq_false_iff_not, Nat.not_le]
  rw [traceEvent_of_step stepped]
  simp only [running, inside, true_and]
  rfl

end Machine

end Sys2Proof
end

