-- ==== Sys2Proof/Proofs/RegistersAndFlags.lean ====
section
/-! What an instruction leaves of the registers, SP and the flags (10_state.md sections 2 to 4): all that the tables of its
rule do not name. -/

namespace Sys2Proof

namespace Machine

/-! ## The registers (R20) -/

/-- The registers outside `written` keep their values. -/
def RegsKept (written : List Reg) (s t : State) : Prop := ∀ r, r ∉ written → readReg r t = readReg r s

theorem regsKept_writeReg (r : Reg) (v : Byte) (s : State) : RegsKept [r] s (writeReg r v s) := by
  intro q other
  rw [readReg_writeReg, if_neg (List.ne_of_not_mem_cons other)]

theorem regsKept_writePair (p : RegPair) (v : Word) (s : State) :
    RegsKept [highReg p, lowReg p] s (writePair p v s) := by
  intro q other
  simp only [List.mem_cons, List.not_mem_nil, or_false, not_or] at other
  rw [writePair, readReg_writeReg, if_neg other.2, readReg_writeReg, if_neg other.1]

/-- The registers of a pair, and none for SP. -/
def pair16Regs : Pair16 → List Reg
  | .bc => [.b, .c]
  | .de => [.d, .e]
  | .hl => [.h, .l]
  | .sp => []

theorem regsKept_writePair16 (p : Pair16) (v : Word) (s : State) : RegsKept (pair16Regs p) s (writePair16 p v s) := by
  cases p with
  | bc => exact regsKept_writePair .bc v s
  | de => exact regsKept_writePair .de v s
  | hl => exact regsKept_writePair .hl v s
  | sp => exact fun r _ => readReg_setSp r v s

theorem regsKept_aluOf (op : AluOp) (v : Src) (s : State) :
    RegsKept (if op = .cmp then [] else [.a]) s (aluOf op v s) := by
  obtain ⟨a, flags, eq, cmpKeepsA⟩ := exists_aluOf_eq op v s
  rw [eq]
  intro r other
  cases r with
  | a =>
    by_cases cmp : op = .cmp
    · exact cmpKeepsA cmp
    · simp [cmp] at other
  | _ => rfl

theorem regsKept_jumpIf (cond : Cond) (target : Word) (s : State) : RegsKept [] s (jumpIf cond target s) := by
  rw [jumpIf_eq]
  intro r _
  cases r <;> rfl

theorem regsKept_callIf (cond : Cond) (target : Word) (s : State) : RegsKept [] s (callIf cond target s) := by
  unfold callIf
  split_ifs <;> simp [RegsKept, callTo]

theorem regsKept_returnIf (cond : Cond) (s : State) : RegsKept [] s (returnIf cond s) := by
  unfold returnIf
  split_ifs <;> simp [RegsKept, returnFrom]

theorem regsKept_exchangeDeHl (s : State) : RegsKept [.d, .e, .h, .l] s (exchangeDeHl s) := by
  intro r other
  cases r with
  | a | b | c => rfl
  | _ => simp at other

/-- Moving `PC` changes no register. -/
theorem RegsKept.advance {written : List Reg} {s t : State} (kept : RegsKept written s t) (width : Nat) :
    RegsKept written s (advance width t) :=
  fun r other => (readReg_advance r width t).trans (kept r other)

theorem RegsKept.setFlags {written : List Reg} {s t : State} (kept : RegsKept written s t) (f : Flags) :
    RegsKept written s (setFlags f t) :=
  fun r other => (readReg_setFlags r f t).trans (kept r other)

/-- What the table leaves of the registers is kept, for an instruction that answers `f` of the state. -/
theorem regs_of_exec_eq {i : Instr} {f : State → State} {written : List Reg} (exec_eq : ∀ s, exec i s = .next (f s))
    (table : writtenRegs i = written) (regs : ∀ s, RegsKept written s (f s)) :
    ∀ s t, exec i s = .next t → RegsKept (writtenRegs i) s t :=
  related_of_exec_eq exec_eq fun s => table.symm ▸ regs s

theorem exec_regsKept (i : Instr) : ∀ s t, exec i s = .next t → RegsKept (writtenRegs i) s t := by
  induction i using Instr.family_cases with
  | ofMov dst src =>
    exact regs_of_exec_eq (exec_ofMov dst src) (writtenRegs_ofMov dst src) fun s => (regsKept_writeReg dst _ s).advance 1
  | ofMovFromMem dst =>
    exact regs_of_exec_eq (exec_ofMovFromMem dst) (writtenRegs_ofMovFromMem dst)
      fun s => (regsKept_writeReg dst _ s).advance 1
  | ofMovToMem src =>
    exact regs_of_exec_eq (exec_ofMovToMem src) (writtenRegs_ofMovToMem src) (by simp [RegsKept, storeAtHl])
  | ofMvi dst d8 =>
    exact regs_of_exec_eq (exec_ofMvi dst d8) (writtenRegs_ofMvi dst d8) fun s => (regsKept_writeReg dst d8 s).advance 2
  | ofInr r =>
    exact regs_of_exec_eq (exec_ofInr r) (writtenRegs_ofInr r)
      fun s => ((regsKept_writeReg r _ s).setFlags _).advance 1
  | ofDcr r =>
    exact regs_of_exec_eq (exec_ofDcr r) (writtenRegs_ofDcr r)
      fun s => ((regsKept_writeReg r _ s).setFlags _).advance 1
  | ofLxi p d16 =>
    exact regs_of_exec_eq (exec_ofLxi p d16) (by cases p <;> rfl) fun s => (regsKept_writePair16 p d16 s).advance 3
  | ofInx p =>
    exact regs_of_exec_eq (exec_ofInx p) (by cases p <;> rfl) fun s => (regsKept_writePair16 p _ s).advance 1
  | ofDcx p =>
    exact regs_of_exec_eq (exec_ofDcx p) (by cases p <;> rfl) fun s => (regsKept_writePair16 p _ s).advance 1
  | ofDad p =>
    exact regs_of_exec_eq (exec_ofDad p) (writtenRegs_ofDad p)
      fun s => ((regsKept_writePair .hl _ s).setFlags _).advance 1
  | ofAlu_add v | ofAlu_adc v | ofAlu_sub v | ofAlu_sbb v | ofAlu_ana v | ofAlu_xra v | ofAlu_ora v | ofAlu_cmp v =>
    exact regs_of_exec_eq (exec_ofAlu _ v) (by simp) (regsKept_aluOf _ v)
  | ofJcc cond a16 => exact regs_of_exec_eq (exec_ofJcc cond a16) (writtenRegs_ofJcc cond a16) (regsKept_jumpIf cond a16)
  | ofCcc cond a16 => exact regs_of_exec_eq (exec_ofCcc cond a16) (writtenRegs_ofCcc cond a16) (regsKept_callIf cond a16)
  | ofRcc cond => exact regs_of_exec_eq (exec_ofRcc cond) (writtenRegs_ofRcc cond) (regsKept_returnIf cond)
  | ofRst n => exact regs_of_exec_eq (exec_ofRst n) (writtenRegs_ofRst n) (by simp [RegsKept, callTo])
  | ofPush p => exact regs_of_exec_eq (exec_ofPush p) (writtenRegs_ofPush p) (by simp [RegsKept])
  | ofPop p =>
    exact regs_of_exec_eq (exec_ofPop p) (writtenRegs_ofPop p) (by simp +contextual [RegsKept, writePair])
  | undefined op i row =>
    obtain ⟨none, -⟩ := undefined_tables row
    exact regs_of_exec_eq (exec_undefined row) none (by simp [RegsKept])
  | ldaxB | ldaxD | lda | cma | inPort =>
    exact regs_of_exec_eq (written := [.a]) (fun _ => rfl) rfl (by simp +contextual [RegsKept, loadReg])
  | rlc | rrc | ral | rar =>
    exact regs_of_exec_eq (written := [.a]) (fun _ => rfl) rfl (by simp +contextual [RegsKept, rotateLeft, rotateRight])
  | daa => exact regs_of_exec_eq (fun _ => rfl) rfl fun s => ((regsKept_writeReg .a _ s).setFlags _).advance 1
  | popPsw => exact regs_of_exec_eq (written := [.a]) (fun _ => rfl) rfl (by simp +contextual [RegsKept, writePsw])
  | lhld => exact regs_of_exec_eq (fun _ => rfl) rfl fun s => (regsKept_writePair .hl _ s).advance 3
  | xthl =>
    exact regs_of_exec_eq (written := [highReg .hl, lowReg .hl]) (fun _ => rfl) rfl
      (by simp +contextual [RegsKept, exchangeStackHl, writePair])
  | xchg => exact regs_of_exec_eq (fun _ => rfl) rfl fun s => (regsKept_exchangeDeHl s).advance 1
  | _ =>
    exact regs_of_exec_eq (written := []) (fun _ => rfl) rfl
      (by simp [RegsKept, storeAtHl, incrementMem, decrementMem, callTo, returnFrom])

/-! ## SP (R24) -/

theorem aluOf_sp (op : AluOp) (v : Src) (s : State) : (aluOf op v s).sp = s.sp := by
  obtain ⟨a, flags, eq, -⟩ := exists_aluOf_eq op v s
  rw [eq]

theorem writePair16_sp {p : Pair16} (notSp : p ≠ .sp) (v : Word) (s : State) : (writePair16 p v s).sp = s.sp := by
  cases p with
  | sp => exact absurd rfl notSp
  | bc => exact writePair_sp .bc v s
  | de => exact writePair_sp .de v s
  | hl => exact writePair_sp .hl v s

theorem ne_sp_of_mayWriteSp_eq_false {family : Pair16 → Instr} {p : Pair16}
    (writes : mayWriteSp (family .sp) = true) (keeps : mayWriteSp (family p) = false) : p ≠ .sp := by
  rintro rfl
  rw [writes] at keeps
  cases keeps

theorem sp_of_mayWriteSp_eq_false {i : Instr} (keeps : mayWriteSp i = false) :
    ∀ s t, exec i s = .next t → t.sp = s.sp := by
  induction i using Instr.family_cases with
  | ofMov dst src => exact related_of_exec_eq (exec_ofMov dst src) (by simp [loadReg])
  | ofMovFromMem dst => exact related_of_exec_eq (exec_ofMovFromMem dst) (by simp [loadReg])
  | ofMovToMem src => exact related_of_exec_eq (exec_ofMovToMem src) (by simp [storeAtHl])
  | ofMvi dst d8 => exact related_of_exec_eq (exec_ofMvi dst d8) (by simp [loadReg])
  | ofInr r => exact related_of_exec_eq (exec_ofInr r) (by simp [incrementReg])
  | ofDcr r => exact related_of_exec_eq (exec_ofDcr r) (by simp [decrementReg])
  | ofLxi p d16 =>
    have notSp := ne_sp_of_mayWriteSp_eq_false (family := (Instr.ofLxi · d16)) rfl keeps
    exact related_of_exec_eq (exec_ofLxi p d16) fun s => writePair16_sp notSp d16 s
  | ofInx p =>
    have notSp := ne_sp_of_mayWriteSp_eq_false (family := Instr.ofInx) rfl keeps
    exact related_of_exec_eq (exec_ofInx p) fun s => writePair16_sp notSp _ s
  | ofDcx p =>
    have notSp := ne_sp_of_mayWriteSp_eq_false (family := Instr.ofDcx) rfl keeps
    exact related_of_exec_eq (exec_ofDcx p) fun s => writePair16_sp notSp _ s
  | ofDad p => exact related_of_exec_eq (exec_ofDad p) (by simp [doubleAdd])
  | ofAlu_add v | ofAlu_adc v | ofAlu_sub v | ofAlu_sbb v | ofAlu_ana v | ofAlu_xra v | ofAlu_ora v | ofAlu_cmp v =>
    exact related_of_exec_eq (exec_ofAlu _ v) (aluOf_sp _ v)
  | ofJcc cond a16 => exact related_of_exec_eq (exec_ofJcc cond a16) (by simp [jumpIf_eq])
  | undefined op i row => exact related_of_exec_eq (exec_undefined row) (by simp)
  | ofCcc | ofRcc | ofRst | ofPush | ofPop => simp at keeps
  | ret | call | popPsw | pushPsw | sphl => cases keeps
  | staxB | staxD | shld | sta | inrM | dcrM | mviM | xthl =>
    exact related_of_exec_eq (fun _ => rfl) (by simp [storeAtHl, incrementMem, decrementMem, exchangeStackHl])
  | _ => exact related_of_exec_eq (fun _ => rfl) (fun _ => rfl)

/-- Settles O25: the registers and SP by their tables. -/
theorem registersOutsideTheRuleKept : Obligations.RegistersOutsideTheRuleKept := fun i s t run =>
  ⟨exec_regsKept i s t run, fun keeps => sp_of_mayWriteSp_eq_false keeps s t run⟩

/-! ## The flags (R33) -/

/-- The flags outside `written` keep their values. -/
def FlagsKept (written : List FlagName) (s t : State) : Prop :=
  ∀ n, n ∉ written → flagValue n t.flags = flagValue n s.flags

theorem flagsKept_of_flags_eq {written : List FlagName} {s t : State} (same : t.flags = s.flags) : FlagsKept written s t :=
  fun n _ => congrArg (flagValue n) same

/-- Nothing is asked of an instruction that writes all five flags. -/
theorem flagsKept_all (s t : State) : FlagsKept [.z, .s, .p, .cy, .ac] s t := by
  intro n other
  cases n <;> simp at other

theorem flagsKept_of_flags_eq_setCy {v : Bool} {s t : State} (carry : t.flags = setCy v s.flags) :
    FlagsKept [.cy] s t := by
  intro n other
  rw [carry]
  cases n with
  | cy => simp at other
  | _ => rfl

/-- INR and DCR keep CY alone (R188, R190). -/
theorem flagsKept_of_cy_eq {s t : State} (cy : t.flags.cy = s.flags.cy) : FlagsKept [.z, .s, .p, .ac] s t := by
  intro n other
  cases n with
  | cy => exact cy
  | _ => simp at other

theorem flagsKept_callIf (cond : Cond) (target : Word) (s : State) : FlagsKept [] s (callIf cond target s) := by
  unfold callIf
  split_ifs <;> exact flagsKept_of_flags_eq rfl

theorem flagsKept_returnIf (cond : Cond) (s : State) : FlagsKept [] s (returnIf cond s) := by
  unfold returnIf
  split_ifs <;> exact flagsKept_of_flags_eq rfl

/-- What the table leaves of the flags is kept, for an instruction that answers `f` of the state. -/
theorem flags_of_exec_eq {i : Instr} {f : State → State} {written : List FlagName}
    (exec_eq : ∀ s, exec i s = .next (f s)) (table : writtenFlags i = written)
    (flags : ∀ s, FlagsKept written s (f s)) : ∀ s t, exec i s = .next t → FlagsKept (writtenFlags i) s t :=
  related_of_exec_eq exec_eq fun s => table.symm ▸ flags s

theorem flags_of_exec_eq_of_flags_eq {i : Instr} {f : State → State} (exec_eq : ∀ s, exec i s = .next (f s))
    (same : ∀ s, (f s).flags = s.flags) : ∀ s t, exec i s = .next t → FlagsKept (writtenFlags i) s t :=
  related_of_exec_eq exec_eq fun s => flagsKept_of_flags_eq (same s)

theorem exec_flagsKept (i : Instr) : ∀ s t, exec i s = .next t → FlagsKept (writtenFlags i) s t := by
  induction i using Instr.family_cases with
  | ofMov dst src => exact flags_of_exec_eq_of_flags_eq (exec_ofMov dst src) (by simp [loadReg])
  | ofMovFromMem dst => exact flags_of_exec_eq_of_flags_eq (exec_ofMovFromMem dst) (by simp [loadReg])
  | ofMovToMem src => exact flags_of_exec_eq_of_flags_eq (exec_ofMovToMem src) (by simp [storeAtHl])
  | ofMvi dst d8 => exact flags_of_exec_eq_of_flags_eq (exec_ofMvi dst d8) (by simp [loadReg])
  | ofLxi p d16 => exact flags_of_exec_eq_of_flags_eq (exec_ofLxi p d16) (by simp)
  | ofInx p => exact flags_of_exec_eq_of_flags_eq (exec_ofInx p) (by simp [incrementPair])
  | ofDcx p => exact flags_of_exec_eq_of_flags_eq (exec_ofDcx p) (by simp [decrementPair])
  | ofInr r => exact flags_of_exec_eq (exec_ofInr r) (writtenFlags_ofInr r) fun s => flagsKept_of_cy_eq rfl
  | ofDcr r => exact flags_of_exec_eq (exec_ofDcr r) (writtenFlags_ofDcr r) fun s => flagsKept_of_cy_eq rfl
  | ofDad p =>
    exact flags_of_exec_eq (exec_ofDad p) (writtenFlags_ofDad p)
      fun s => flagsKept_of_flags_eq_setCy (by rw [doubleAdd, advance_flags, setCarry_flags, writePair_flags])
  | ofAlu_add v | ofAlu_adc v | ofAlu_sub v | ofAlu_sbb v | ofAlu_ana v | ofAlu_xra v | ofAlu_ora v | ofAlu_cmp v =>
    exact flags_of_exec_eq (exec_ofAlu _ v) (by simp) fun s => flagsKept_all s _
  | ofJcc cond a16 => exact flags_of_exec_eq_of_flags_eq (exec_ofJcc cond a16) (by simp [jumpIf_eq])
  | ofCcc cond a16 => exact flags_of_exec_eq (exec_ofCcc cond a16) (by simp) (flagsKept_callIf cond a16)
  | ofRcc cond => exact flags_of_exec_eq (exec_ofRcc cond) (by simp) (flagsKept_returnIf cond)
  | ofRst n => exact flags_of_exec_eq_of_flags_eq (exec_ofRst n) (by simp [callTo])
  | ofPush p => exact flags_of_exec_eq_of_flags_eq (exec_ofPush p) (by simp)
  | ofPop p => exact flags_of_exec_eq_of_flags_eq (exec_ofPop p) (by simp)
  | undefined op i row => exact flags_of_exec_eq_of_flags_eq (exec_undefined row) (by simp)
  | inrM | dcrM => exact flags_of_exec_eq (fun _ => rfl) rfl fun s => flagsKept_of_cy_eq rfl
  | rlc | rrc | ral | rar | stc | cmc =>
    exact flags_of_exec_eq (fun _ => rfl) rfl fun s => flagsKept_of_flags_eq_setCy rfl
  | daa | popPsw => exact flags_of_exec_eq (fun _ => rfl) rfl fun s => flagsKept_all s _
  | staxB | staxD | shld | sta | mviM | xthl | call | pushPsw =>
    exact flags_of_exec_eq_of_flags_eq (fun _ => rfl) (by simp [storeAtHl, exchangeStackHl, callTo])
  | _ => exact flags_of_exec_eq_of_flags_eq (fun _ => rfl) (fun _ => rfl)

/-- Settles O26: the flags by their table. -/
theorem flagsOutsideTheTableKept : Obligations.FlagsOutsideTheTableKept := exec_flagsKept

end Machine

end Sys2Proof
end

