-- ==== Sys2Proof/Proofs/Draws.lean ====
section
/-! No instruction but IN reads the draw counter (log 3): with its operands known, an instruction's meaning reduces to the
same state whatever the counter holds. -/

namespace Sys2Proof

namespace Machine

/-- With another draw counter before, nothing but that counter differs after. -/
def CarriesDraws (i : Instr) : Prop :=
  ∀ (n : Nat) (s : State), exec i { s with inDraws := n } = mapNext (fun t => { t with inDraws := n }) (exec i s)

theorem carriesDraws_ofAlu (op : AluOp) (v : Src) : CarriesDraws (Instr.ofAlu op v) := by
  intro n s
  cases v with
  | reg r => cases op <;> cases r <;> rfl
  | mem => cases op <;> rfl
  | imm d8 => cases op <;> rfl

theorem carriesDraws_ofJcc (cond : Cond) (a16 : Word) : CarriesDraws (Instr.ofJcc cond a16) := by
  intro n s
  rw [exec_ofJcc, exec_ofJcc, jumpIf_eq, jumpIf_eq, mapNext_next]

theorem carriesDraws_ofCcc (cond : Cond) (a16 : Word) : CarriesDraws (Instr.ofCcc cond a16) := by
  intro n s
  rw [exec_ofCcc, exec_ofCcc, mapNext_next, callIf, callIf]
  split_ifs <;> rfl

theorem carriesDraws_ofRcc (cond : Cond) : CarriesDraws (Instr.ofRcc cond) := by
  intro n s
  rw [exec_ofRcc, exec_ofRcc, mapNext_next, returnIf, returnIf]
  split_ifs <;> rfl

theorem carriesDraws_undefined {op : Byte} {i : Instr} (row : (op, i) ∈ Instr.undefinedRows) : CarriesDraws i := by
  intro n s
  rw [exec_undefined row, exec_undefined row]
  rfl

theorem carriesDraws_of_ne_inPort {i : Instr} (notIn : ∀ port, i ≠ .inPort port) : CarriesDraws i := by
  induction i using Instr.family_cases with
  | inPort port => exact absurd rfl (notIn port)
  | ofAlu_add v | ofAlu_adc v | ofAlu_sub v | ofAlu_sbb v | ofAlu_ana v | ofAlu_xra v | ofAlu_ora v | ofAlu_cmp v =>
    exact carriesDraws_ofAlu _ v
  | ofJcc cond a16 => exact carriesDraws_ofJcc cond a16
  | ofCcc cond a16 => exact carriesDraws_ofCcc cond a16
  | ofRcc cond => exact carriesDraws_ofRcc cond
  | undefined op i row => exact carriesDraws_undefined row
  | ofMov dst src => cases dst <;> cases src <;> exact fun _ _ => rfl
  | ofMovFromMem r | ofMovToMem r | ofInr r | ofDcr r => cases r <;> exact fun _ _ => rfl
  | ofMvi r d8 => cases r <;> exact fun _ _ => rfl
  | ofLxi p d16 => cases p <;> exact fun _ _ => rfl
  | ofInx p | ofDcx p | ofDad p | ofPush p | ofPop p => cases p <;> exact fun _ _ => rfl
  | ofRst n => exact fun _ _ => by rw [exec_ofRst, exec_ofRst]; rfl
  | _ => exact fun _ _ => rfl

/-- Settles O31: every instruction but IN carries the draw counter along. -/
theorem onlyInputTakesADraw : Obligations.OnlyInputTakesADraw := fun _ n s notIn =>
  carriesDraws_of_ne_inPort notIn n s

end Machine

end Sys2Proof
end

