-- ==== Sys2Proof/Proofs/Arithmetic.lean ====
section
/-! The flag ALU in the arithmetic of unsigned values (42_arithmetic.md, 43_logical.md), and the instructions that stand on
it. -/

namespace Sys2Proof

namespace Machine

/-! ## The flag ALU (R170 to R172, R188, R190, R230) -/

/-- The flags of a result: Z, S and P from the result itself, CY and AC as given. -/
def resultFlags (r : Byte) (cy ac : Bool) : Flags :=
  { z := decide (r = 0), s := decide (128 ≤ r.toNat), p := parity r, cy := cy, ac := ac }

theorem setZsp_eq (r : Byte) (f : Flags) : setZsp r f = resultFlags r f.cy f.ac := by
  rw [setZsp, byte_msb_eq_decide]
  rfl

theorem logicFlags_eq (r : Byte) (ac : Bool) : logicFlags r ac = resultFlags r false ac := by
  rw [logicFlags, byte_msb_eq_decide]
  rfl

theorem add8_eq (a v : Byte) (cin : Bool) :
    add8 a v cin =
      (BitVec.ofNat 8 (a.toNat + v.toNat + bitNat cin),
        resultFlags (BitVec.ofNat 8 (a.toNat + v.toNat + bitNat cin)) (decide (256 ≤ a.toNat + v.toNat + bitNat cin))
          (decide (16 ≤ a.toNat % 16 + v.toNat % 16 + bitNat cin))) := by
  rw [add8, byte_msb_eq_decide]
  rfl

theorem bitNat_le_one (b : Bool) : bitNat b ≤ 1 := by
  cases b <;> decide

/-- The difference modulo 256, with 512 added so that it is never below 0. -/
theorem ofInt_diff8 (a v : Byte) (bin : Bool) :
    BitVec.ofInt 8 (diff8 a v bin) = BitVec.ofNat 8 (a.toNat + 512 - v.toNat - bitNat bin) := by
  have bin_le := bitNat_le_one bin
  have v_lt := v.isLt
  apply BitVec.eq_of_toNat_eq
  rw [BitVec.toNat_ofInt, BitVec.toNat_ofNat, diff8]
  omega

/-- CY is the borrow, and AC is set when the low digit takes no borrow (R172, D3). -/
theorem sub8_eq (a v : Byte) (bin : Bool) :
    sub8 a v bin =
      (BitVec.ofNat 8 (a.toNat + 512 - v.toNat - bitNat bin),
        resultFlags (BitVec.ofNat 8 (a.toNat + 512 - v.toNat - bitNat bin)) (decide (a.toNat < v.toNat + bitNat bin))
          (decide (v.toNat % 16 + bitNat bin ≤ a.toNat % 16))) := by
  have bin_le := bitNat_le_one bin
  have borrow : decide (diff8 a v bin < 0) = decide (a.toNat < v.toNat + bitNat bin) :=
    decide_eq_decide.mpr (by rw [diff8]; omega)
  have halfBorrow : decide (a.toNat % 16 + (~~~v).toNat % 16 + (1 - bitNat bin) > 15) =
      decide (v.toNat % 16 + bitNat bin ≤ a.toNat % 16) :=
    decide_eq_decide.mpr (by rw [BitVec.toNat_not]; omega)
  rw [sub8, byte_msb_eq_decide, borrow, halfBorrow, ofInt_diff8]
  rfl

/-- AC after INR is the carry out of bit 3 (R188, D3). -/
theorem incFlags_eq (v : Byte) (f : Flags) :
    incFlags (v + 1) f = resultFlags (v + 1) f.cy (decide (16 ≤ v.toNat % 16 + 1)) := by
  have carry : decide ((v + 1).toNat % 16 = 0) = decide (16 ≤ v.toNat % 16 + 1) :=
    decide_eq_decide.mpr (by rw [BitVec.toNat_add]; simp; omega)
  rw [incFlags, setZsp_eq, carry]
  rfl

/-- AC after DCR is clear when bit 3 borrows (R190, D3). -/
theorem decFlags_eq (v : Byte) (f : Flags) :
    decFlags (v - 1) f = resultFlags (v - 1) f.cy (decide (1 ≤ v.toNat % 16)) := by
  have noBorrow : decide ((v - 1).toNat % 16 ≠ 15) = decide (1 ≤ v.toNat % 16) :=
    decide_eq_decide.mpr (by rw [BitVec.toNat_sub]; simp; omega)
  rw [decFlags, setZsp_eq, noBorrow]
  rfl

/-! ## ADD, SUB, CMP and their relatives (R173 to R187) -/

theorem bitNat_and (b c : Bool) : bitNat (b && c) = if b = true ∧ c = true then 1 else 0 := by
  cases b <;> cases c <;> rfl

theorem exec_ofAlu_addition (withCarry : Bool) (v : Src) (s : State) :
    exec (Instr.ofAlu (if withCarry then .adc else .add) v) s =
      .next (writeAlu (add8 s.a (operandValue v s) (withCarry && s.flags.cy)) v s) := by
  cases withCarry with
  | false => exact exec_ofAlu_add v s
  | true => exact exec_ofAlu_adc v s

theorem exec_ofAlu_subtraction (withBorrow : Bool) (v : Src) (s : State) :
    exec (Instr.ofAlu (if withBorrow then .sbb else .sub) v) s =
      .next (writeAlu (sub8 s.a (operandValue v s) (withBorrow && s.flags.cy)) v s) := by
  cases withBorrow with
  | false => exact exec_ofAlu_sub v s
  | true => exact exec_ofAlu_sbb v s

/-- Settles O40: the operand by its three forms, and the sum with its flags as `add8` gives them. -/
theorem additionResultAndFlags : Obligations.AdditionResultAndFlags := by
  refine ⟨fun _ _ => rfl, fun _ => rfl, fun _ _ => rfl, fun withCarry v s => ?_⟩
  rw [exec_ofAlu_addition, writeAlu_eq, add8_eq, bitNat_and, encode_ofAlu_length]
  rfl

/-- Settles O41: the difference with its flags as `sub8` gives them. -/
theorem subtractionResultAndFlags : Obligations.SubtractionResultAndFlags := by
  intro withBorrow v s
  rw [exec_ofAlu_subtraction, writeAlu_eq, sub8_eq, bitNat_and, encode_ofAlu_length]
  rfl

/-- The difference modulo 256 is 0 exactly when the two bytes are equal. -/
theorem sub8_z (a v : Byte) : (sub8 a v false).2.z = decide (a = v) := by
  rw [sub8_eq]
  refine decide_eq_decide.mpr ?_
  rw [← BitVec.toNat_inj, ← BitVec.toNat_inj, BitVec.toNat_ofNat, bitNat]
  simp
  omega

theorem sub8_cy (a v : Byte) : (sub8 a v false).2.cy = decide (a.toNat < v.toNat) := by
  rw [sub8_eq]
  rfl

/-- Settles O42: CMP and SUB take the same difference, and only SUB writes A. -/
theorem compareIsSubtractionWithoutResult : Obligations.CompareIsSubtractionWithoutResult := fun v s =>
  ⟨aluCompare v s, aluSub v s, exec_ofAlu_cmp v s, exec_ofAlu_sub v s, rfl, sub8_z s.a _, sub8_cy s.a _⟩

/-! ## INR and DCR (R188 to R191) -/

theorem byte_add_one (v : Byte) : v + 1 = BitVec.ofNat 8 (v.toNat + 1) := by
  rw [BitVec.ofNat_add, BitVec.ofNat_toNat, BitVec.setWidth_eq]
  rfl

/-- One less modulo 256 is 255 more. -/
theorem byte_sub_one (v : Byte) : v - 1 = BitVec.ofNat 8 (v.toNat + 255) := by
  rw [BitVec.ofNat_add, BitVec.ofNat_toNat, BitVec.setWidth_eq]
  exact BitVec.sub_eq_add_neg v 1

theorem incrementReg_eq (r : Reg) (s : State) :
    incrementReg r s = { writeReg r (readReg r s + 1) s with
      flags := resultFlags (readReg r s + 1) s.flags.cy (decide (16 ≤ (readReg r s).toNat % 16 + 1)),
      pc := s.pc + 1 } := by
  rw [incrementReg, incFlags_eq, advance, nextPc, setFlags_pc, writeReg_pc]
  rfl

theorem decrementReg_eq (r : Reg) (s : State) :
    decrementReg r s = { writeReg r (readReg r s - 1) s with
      flags := resultFlags (readReg r s - 1) s.flags.cy (decide (1 ≤ (readReg r s).toNat % 16)),
      pc := s.pc + 1 } := by
  rw [decrementReg, decFlags_eq, advance, nextPc, setFlags_pc, writeReg_pc]
  rfl

theorem incrementMem_eq (s : State) :
    incrementMem s = { s with
      mem := Memory.write s.mem (combine s.h s.l) (readMem (combine s.h s.l) s + 1),
      flags := resultFlags (readMem (combine s.h s.l) s + 1) s.flags.cy
        (decide (16 ≤ (readMem (combine s.h s.l) s).toNat % 16 + 1)),
      pc := s.pc + 1 } := by
  rw [incrementMem, incFlags_eq, readAtHl_eq]
  rfl

theorem decrementMem_eq (s : State) :
    decrementMem s = { s with
      mem := Memory.write s.mem (combine s.h s.l) (readMem (combine s.h s.l) s - 1),
      flags := resultFlags (readMem (combine s.h s.l) s - 1) s.flags.cy
        (decide (1 ≤ (readMem (combine s.h s.l) s).toNat % 16)),
      pc := s.pc + 1 } := by
  rw [decrementMem, decFlags_eq, readAtHl_eq]
  rfl

theorem exec_inrM (s : State) : exec .inrM s = .next (incrementMem s) := rfl

theorem exec_dcrM (s : State) : exec .dcrM s = .next (decrementMem s) := rfl

/-- Settles O43: plus and minus one as sums of unsigned values, on a register and on the byte at HL. -/
theorem incrementDecrement : Obligations.IncrementDecrement := by
  refine ⟨fun r s => ⟨?_, ?_⟩, fun s => ⟨?_, ?_⟩⟩
  · rw [exec_ofInr, incrementReg_eq, byte_add_one]
    rfl
  · rw [exec_ofDcr, decrementReg_eq, byte_sub_one]
    rfl
  · rw [exec_inrM, incrementMem_eq, byte_add_one]
    rfl
  · rw [exec_dcrM, decrementMem_eq, byte_sub_one]
    rfl

/-! ## DAD and DAA (R194, R195) -/

theorem readPair_hl (s : State) : readPair .hl s = combine s.h s.l := rfl

/-- The two bytes of a 16-bit sum, from the sum of the unsigned values. -/
theorem highByte_add (x y : Word) : highByte (x + y) = BitVec.ofNat 8 ((x.toNat + y.toNat) / 256) := by
  apply BitVec.eq_of_toNat_eq
  rw [highByte, BitVec.extractLsb'_toNat, BitVec.toNat_add, BitVec.toNat_ofNat, Nat.shiftRight_eq_div_pow]
  omega

theorem lowByte_add (x y : Word) : lowByte (x + y) = BitVec.ofNat 8 (x.toNat + y.toNat) := by
  apply BitVec.eq_of_toNat_eq
  rw [lowByte, BitVec.extractLsb'_toNat, BitVec.toNat_add, BitVec.toNat_ofNat, Nat.shiftRight_eq_div_pow]
  omega

/-- The correction of DAA is the sum of its two parts. -/
theorem daaCorrection_toNat (a : Byte) (f : Flags) :
    (daaCorrection a f).toNat = (if daaLow a f then 6 else 0) + (if daaHigh a f then 96 else 0) := by
  unfold daaCorrection
  split_ifs <;> rfl

/-- The high correction is applied whenever CY is set, so it alone gives CY after DAA. -/
theorem daaCarry_eq (a : Byte) (f : Flags) : daaCarry a f = daaHigh a f := by
  cases cy : f.cy <;> simp [daaCarry, daaHigh, cy]

/-- The sum of DAA by the unsigned values of A and the two corrections; the high one does not reach the low digit. -/
theorem decimalAdjust_eq {s : State} {low high : Nat} (low_eq : (if daaLow s.a s.flags then 6 else 0) = low)
    (high_eq : (if daaHigh s.a s.flags then 96 else 0) = high) :
    decimalAdjust s = { s with
      a := BitVec.ofNat 8 (s.a.toNat + low + high),
      flags := resultFlags (BitVec.ofNat 8 (s.a.toNat + low + high)) (decide (high = 96))
        (decide (16 ≤ s.a.toNat % 16 + low)),
      pc := s.pc + 1 } := by
  have correction : (daaCorrection s.a s.flags).toNat = low + high := by rw [daaCorrection_toNat, low_eq, high_eq]
  have carry : daaCarry s.a s.flags = decide (high = 96) := by
    rw [daaCarry_eq, ← high_eq]
    cases daaHigh s.a s.flags <;> rfl
  have lowDigit : (low + high) % 16 = low := by
    rw [← low_eq, ← high_eq]
    split_ifs <;> rfl
  rw [decimalAdjust, add8_eq, correction, carry, lowDigit, ← Nat.add_assoc]
  rfl

end Machine

/-- Settles O45: the two bytes of the sum to H and L, and CY as the comparison of the sum with 2^16. -/
theorem doubleAdd : Obligations.DoubleAdd := by
  intro p s
  rw [Machine.exec_ofDad, Machine.doubleAdd, Machine.readPair_hl, Machine.writePair, Machine.highByte_add,
    Machine.lowByte_add]
  rfl

/-- Settles O46: the conditions of the two corrections as the digits and the flags say them. -/
theorem decimalAdjust : Obligations.DecimalAdjust := by
  intro s lo hi low high r
  have low_eq : (if Machine.daaLow s.a s.flags then 6 else 0) = low := by
    simp [low, Machine.daaLow, lo]
  have high_eq : (if Machine.daaHigh s.a s.flags then 96 else 0) = high := by
    simp [high, Machine.daaHigh, lo, hi, or_assoc]
  exact congrArg _ (Machine.decimalAdjust_eq low_eq high_eq)

end Sys2Proof
end

