-- ==== Sys2Proof/Proofs/LogicRotates.lean ====
section
/-! Logic, rotates and the carry instructions (43_logical.md): a rotate in the arithmetic of the unsigned value, and RAR as
what undoes RAL. -/

namespace Sys2Proof

namespace Machine

/-! ## ANA, XRA, ORA (R230 to R239) -/

/-- Settles O47: the three results with their flags as `logicFlags` gives them, bit 3 of an OR being the OR of the bits. -/
theorem logicResultAndFlags : Obligations.LogicResultAndFlags := by
  intro v s
  simp only [exec_ofAlu_ana, exec_ofAlu_xra, exec_ofAlu_ora, aluAnd, aluXor, aluOr, writeAlu_eq, logicAnd, logicXor,
    logicOr, logicFlags_eq, BitVec.getLsbD_or, encode_ofAlu_length]
  exact ⟨rfl, rfl, rfl⟩

/-! ## The rotates (R240 to R243) -/

theorem bitByte_toNat (b : Bool) : (bitByte b).toNat = bitNat b := by
  cases b <;> rfl

/-- A left shift by one leaves bit 0 clear, so the entering bit is added there. -/
theorem shiftLeftIn_eq (v : Byte) (b : Bool) : shiftLeftIn v b = BitVec.ofNat 8 (2 * v.toNat + bitNat b) := by
  have bit_lt : bitNat b < 2 ^ 1 := Nat.lt_succ_of_le (bitNat_le_one b)
  have v_lt := v.isLt
  have shifted : v.toNat <<< 1 % 2 ^ 8 = (v.toNat % 128) <<< 1 := by
    rw [Nat.shiftLeft_eq, Nat.shiftLeft_eq]
    omega
  apply BitVec.eq_of_toNat_eq
  rw [shiftLeftIn, BitVec.toNat_or, BitVec.toNat_shiftLeft, bitByte_toNat, shifted,
    ← Nat.shiftLeft_add_eq_or_of_lt bit_lt, BitVec.toNat_ofNat, Nat.shiftLeft_eq]
  omega

/-- A right shift by one leaves bit 7 clear, so the entering bit is added there. -/
theorem shiftRightIn_eq (v : Byte) (b : Bool) :
    shiftRightIn v b = BitVec.ofNat 8 (v.toNat / 2 + 128 * bitNat b) := by
  have bit_le := bitNat_le_one b
  have v_lt := v.isLt
  have half_lt : v.toNat >>> 1 < 2 ^ 7 := by
    rw [Nat.shiftRight_eq_div_pow]
    omega
  have entering : bitNat b <<< 7 % 2 ^ 8 = bitNat b <<< 7 := by
    rw [Nat.shiftLeft_eq]
    omega
  apply BitVec.eq_of_toNat_eq
  rw [shiftRightIn, BitVec.toNat_or, BitVec.toNat_ushiftRight, BitVec.toNat_shiftLeft, bitByte_toNat, entering,
    Nat.lor_comm, ← Nat.shiftLeft_add_eq_or_of_lt half_lt, BitVec.toNat_ofNat, Nat.shiftLeft_eq,
    Nat.shiftRight_eq_div_pow]
  omega

theorem byte_lsb_eq_decide (v : Byte) : v.getLsbD 0 = decide (v.toNat % 2 = 1) := by
  rw [BitVec.getLsbD, Nat.testBit_zero]

theorem bitNat_msb (v : Byte) : bitNat v.msb = v.toNat / 128 := by
  have v_lt := v.isLt
  rw [byte_msb_eq_decide, bitNat]
  simp only [decide_eq_true_eq]
  split_ifs <;> omega

theorem bitNat_lsb (v : Byte) : bitNat (v.getLsbD 0) = v.toNat % 2 := by
  rw [byte_lsb_eq_decide, bitNat]
  simp only [decide_eq_true_eq]
  split_ifs <;> omega

theorem rotateLeft_eq (bit : Bool) (s : State) :
    rotateLeft bit s = { s with
      a := BitVec.ofNat 8 (2 * s.a.toNat + bitNat bit),
      flags := { s.flags with cy := decide (128 ≤ s.a.toNat) },
      pc := s.pc + 1 } := by
  rw [rotateLeft, shiftLeftIn_eq, byte_msb_eq_decide]
  rfl

theorem rotateRight_eq (bit : Bool) (s : State) :
    rotateRight bit s = { s with
      a := BitVec.ofNat 8 (s.a.toNat / 2 + 128 * bitNat bit),
      flags := { s.flags with cy := decide (s.a.toNat % 2 = 1) },
      pc := s.pc + 1 } := by
  rw [rotateRight, shiftRightIn_eq, byte_lsb_eq_decide]
  rfl

/-- The bit that RAL shifted out to CY comes back in at bit 7. -/
theorem shiftRightIn_shiftLeftIn (v : Byte) (b : Bool) : shiftRightIn (shiftLeftIn v b) v.msb = v := by
  have bit_le := bitNat_le_one b
  have v_lt := v.isLt
  apply BitVec.eq_of_toNat_eq
  rw [shiftRightIn_eq, shiftLeftIn_eq, bitNat_msb, BitVec.toNat_ofNat, BitVec.toNat_ofNat]
  omega

/-- And the old CY, which RAL shifted in at bit 0, comes out there. -/
theorem lsb_shiftLeftIn (v : Byte) (b : Bool) : (shiftLeftIn v b).getLsbD 0 = b := by
  rw [byte_lsb_eq_decide, shiftLeftIn_eq, BitVec.toNat_ofNat]
  cases b <;> simp [bitNat]

theorem rotateRight_rotateLeft (s : State) :
    rotateRight (rotateLeft s.flags.cy s).flags.cy (rotateLeft s.flags.cy s) = { s with pc := s.pc + 2 } := by
  have carried : (rotateLeft s.flags.cy s).flags.cy = s.a.msb := rfl
  have rotated : (rotateLeft s.flags.cy s).a = shiftLeftIn s.a s.flags.cy := rfl
  have pc_twice : s.pc + 1 + 1 = s.pc + 2 := BitVec.add_assoc s.pc 1 1
  calc rotateRight (rotateLeft s.flags.cy s).flags.cy (rotateLeft s.flags.cy s)
      = { s with a := s.a, flags := { s.flags with cy := s.flags.cy }, pc := s.pc + 1 + 1 } := by
        rw [rotateRight, carried, rotated, shiftRightIn_shiftLeftIn, lsb_shiftLeftIn]
        rfl
    _ = { s with pc := s.pc + 2 } := by rw [pc_twice]

theorem exec_rlc (s : State) : exec .rlc s = .next (rotateLeft s.a.msb s) := rfl

theorem exec_rrc (s : State) : exec .rrc s = .next (rotateRight (s.a.getLsbD 0) s) := rfl

theorem exec_ral (s : State) : exec .ral s = .next (rotateLeft s.flags.cy s) := rfl

theorem exec_rar (s : State) : exec .rar s = .next (rotateRight s.flags.cy s) := rfl

/-- Settles O48: the four rotates as sums with the entering bit, and RAR after RAL by the two bits that come back. -/
theorem rotates : Obligations.Rotates := by
  intro s
  refine ⟨?_, ?_, ?_, ?_, fun t rotated => ?_⟩
  · rw [exec_rlc, rotateLeft_eq, bitNat_msb]
  · rw [exec_rrc, rotateRight_eq, bitNat_lsb]
  · rw [exec_ral, rotateLeft_eq]
    rfl
  · rw [exec_rar, rotateRight_eq]
    rfl
  · obtain rfl := eq_of_exec_eq (exec_ral s) rotated
    rw [exec_rar, rotateRight_rotateLeft]

/-! ## CMA, CMC, STC (R244 to R246) -/

/-- The complement of a byte as a difference. -/
theorem byte_not_eq (v : Byte) : ~~~v = BitVec.ofNat 8 (255 - v.toNat) := by
  apply BitVec.eq_of_toNat_eq
  rw [BitVec.toNat_not, BitVec.toNat_ofNat]
  omega

theorem exec_cma (s : State) : exec .cma s = .next (loadReg .a (~~~ s.a) 1 s) := rfl

/-- Settles O49: the complement as the difference from 255, and CY written alone. -/
theorem complementAndCarry : Obligations.ComplementAndCarry := by
  refine fun s => ⟨?_, rfl, rfl⟩
  rw [exec_cma, byte_not_eq]
  rfl

end Machine

end Sys2Proof
end

