-- ==== Sys2Proof/Proofs/StackControl.lean ====
section
/-! Calls, returns and restarts, PSW on the stack, and the moves of HL (41_data_transfer.md, 44_branch.md to 46_stack.md):
each as a push, a pop or a two-byte store among otherwise unchanged fields. -/

namespace Sys2Proof

namespace Machine

/-! ## Calls and restarts (R292 to R300, R310) -/

theorem exec_call (a16 : Word) (s : State) : exec (.call a16) s = .next (callTo a16 3 s) := rfl

theorem callIf_of_holds {cond : Cond} {s : State} (holds : condHolds cond s.flags = true) (target : Word) :
    callIf cond target s = callTo target 3 s :=
  if_pos holds

theorem callIf_of_not_holds {cond : Cond} {s : State} (fails : ¬ condHolds cond s.flags = true) (target : Word) :
    callIf cond target s = advance 3 s :=
  if_neg fails

/-- Settles O52: the call by its push, and the conditional call by its two branches. -/
theorem callsPushTheReturnAddress : Obligations.CallsPushTheReturnAddress := by
  refine fun a s => ⟨⟨callTo a 3 s, exec_call a s, callTo_spec a 3 s⟩, fun cond => ?_⟩
  refine ⟨callIf cond a s, exec_ofCcc cond a s, fun holds => ?_, fun fails => ?_⟩
  · rw [callIf_of_holds holds]
    exact callTo_spec a 3 s
  · rw [callIf_of_not_holds (Bool.eq_false_iff.mp fails)]
    rfl

/-- Three bits shifted left by three lose nothing in 16 bits. -/
theorem restartTarget_toNat (n : BitVec 3) : (restartTarget n).toNat = 8 * n.toNat := by
  have n_lt := n.isLt
  rw [restartTarget, BitVec.toNat_shiftLeft, BitVec.toNat_setWidth, Nat.shiftLeft_eq]
  omega

/-- Settles O54: the call of a one-byte instruction to eight times its number. -/
theorem restarts : Obligations.Restarts := by
  intro n s
  obtain ⟨pushed, frame⟩ := callTo_spec (restartTarget n) 1 s
  exact ⟨callTo (restartTarget n) 1 s, exec_ofRst n s, pushed, restartTarget_toNat n, frame⟩

/-! ## Returns (R301 to R309) -/

theorem exec_ret (s : State) : exec .ret s = .next (returnFrom s) := rfl

theorem returnIf_of_holds {cond : Cond} {s : State} (holds : condHolds cond s.flags = true) :
    returnIf cond s = returnFrom s :=
  if_pos holds

theorem returnIf_of_not_holds {cond : Cond} {s : State} (fails : ¬ condHolds cond s.flags = true) :
    returnIf cond s = advance 1 s :=
  if_neg fails

/-- A return after a call resumes past the call, with `SP` as it was, modulo 2^16. -/
theorem returnFrom_callTo (target : Word) (width : Nat) (s : State) :
    returnFrom (callTo target width s) = { s with mem := (callTo target width s).mem, pc := nextPc width s } := by
  obtain ⟨pushed, frame⟩ := callTo_spec target width s
  have popped : popValue (callTo target width s) = nextPc width s := popValue_of_pushed pushed
  have sp_restored : (callTo target width s).sp + 2 = s.sp := BitVec.sub_add_cancel s.sp 2
  calc returnFrom (callTo target width s)
      = { callTo target width s with pc := nextPc width s, sp := s.sp } := by
        rw [returnFrom, popped, dropPopped, sp_restored]
        rfl
    _ = { s with mem := (callTo target width s).mem, pc := nextPc width s } := by rw [frame]

/-- Settles O53: the return by the popped value, its two branches, and the return after the call. -/
theorem returnsPopTheProgramCounter : Obligations.ReturnsPopTheProgramCounter := by
  refine ⟨fun s => ⟨(exec_ret s).trans (congrArg _ (returnFrom_eq s)), fun cond => ?_⟩, fun a s t called => ?_⟩
  · rw [exec_ofRcc]
    by_cases holds : condHolds cond s.flags = true
    · rw [returnIf_of_holds holds, if_pos holds, returnFrom_eq]
    · rw [returnIf_of_not_holds holds, if_neg holds]
      rfl
  · obtain rfl := eq_of_exec_eq (exec_call a s) called
    rw [exec_ret, returnFrom_callTo]
    rfl

/-! ## PSW (R330, R332, R334) -/

/-- The packed flag byte as the sum of its five bits. -/
theorem flagByte_toNat (f : Flags) :
    (flagByte f).toNat =
      (if f.z then 1 else 0) + (if f.s then 2 else 0) + (if f.p then 4 else 0) + (if f.cy then 8 else 0) +
        (if f.ac then 16 else 0) := by
  obtain ⟨z, s, p, cy, ac⟩ := f
  revert z s p cy ac
  decide

@[simp] theorem unpackFlags_flagByte (f : Flags) : unpackFlags (flagByte f) = f := by
  obtain ⟨z, s, p, cy, ac⟩ := f
  revert z s p cy ac
  decide

theorem exec_pushPsw (s : State) : exec .pushPsw s = .next (advance 1 (push16 (psw s) s)) := rfl

theorem exec_popPsw (s : State) : exec .popPsw s = .next (advance 1 (writePsw (popValue s) (dropPopped s))) := rfl

/-- A and the flags taken from their own PSW are as they were. -/
theorem writePsw_psw (s t : State) : writePsw (psw s) t = { t with a := s.a, flags := s.flags } := by
  rw [writePsw, psw, highByte_combine, lowByte_combine, unpackFlags_flagByte]
  rfl

/-- A and the flags by the two bytes of a popped PSW. -/
theorem writePsw_combine (hi lo : Byte) (s : State) :
    writePsw (combine hi lo) s = { s with a := hi, flags := unpackFlags lo } := by
  rw [writePsw, highByte_combine, lowByte_combine]
  rfl

theorem exec_popPsw_advance_push16 (s : State) :
    exec .popPsw (advance 1 (push16 (psw s) s)) = .next { s with mem := (push16 (psw s) s).mem, pc := s.pc + 2 } := by
  have pc_twice : s.pc + 1 + 1 = s.pc + 2 := BitVec.add_assoc s.pc 1 1
  rw [exec_popPsw, popValue_advance_push16, dropPopped_advance_push16, writePsw_psw, ← pc_twice]
  rfl

/-- Settles O57: the push of A and the packed flags, the pop by its two bytes, and the pop of what was pushed. -/
theorem accumulatorAndFlagsOnTheStack : Obligations.AccumulatorAndFlagsOnTheStack := by
  refine ⟨fun s => ?_, fun s => ?_, fun s t pushed => ?_⟩
  · obtain ⟨⟨high, low, sp_lower, others⟩, frame⟩ := advance_push16_spec (psw s) s
    rw [psw, highByte_combine] at high
    rw [psw, lowByte_combine] at low
    exact ⟨advance 1 (push16 (psw s) s), exec_pushPsw s, high, low ▸ flagByte_toNat s.flags, sp_lower, others, frame⟩
  · rw [exec_popPsw, popValue, readMem16, writePsw_combine]
    rfl
  · obtain rfl := eq_of_exec_eq (exec_pushPsw s) pushed
    exact exec_popPsw_advance_push16 s

/-! ## HL exchanged with the stack, and loaded to SP and PC (R270, R335, R336) -/

/-- Two bytes stored at `x`: the low one there, the high one at the next address. -/
theorem writeMem16_spec (x v : Word) (s : State) :
    readMem x (writeMem16 x v s) = lowByte v ∧ readMem (x + 1) (writeMem16 x v s) = highByte v ∧
      SameMemoryBut [x, x + 1] s (writeMem16 x v s) := by
  have next_ne : x ≠ x + 1 := by bv_omega
  refine ⟨?_, ?_, (storesOnly_writeMem16 x v s).1⟩
  · rw [readMem_writeMem16, if_neg next_ne, if_pos rfl]
  · rw [readMem_writeMem16, if_pos rfl]

theorem exec_xthl (s : State) : exec .xthl s = .next (advance 1 (exchangeStackHl s)) := rfl

/-- The exchange as the two bytes stored and H and L loaded with what was read before. -/
theorem exchangeStackHl_eq (s : State) :
    exchangeStackHl s = { writeMem16 s.sp (combine s.h s.l) s with
      h := readMem (s.sp + 1) s, l := readMem s.sp s } := by
  rw [exchangeStackHl, readMem16, writePair_combine]
  rfl

/-- Settles O58: the stored bytes are L and H, those loaded are what `SP` pointed to. -/
theorem exchangesAndLoadsOfHl : Obligations.ExchangesAndLoadsOfHl := by
  refine fun s => ⟨?_, rfl, rfl⟩
  obtain ⟨low, high, others⟩ := writeMem16_spec s.sp (combine s.h s.l) s
  rw [lowByte_combine] at low
  rw [highByte_combine] at high
  refine ⟨_, (exec_xthl s).trans (congrArg _ (congrArg (advance 1) (exchangeStackHl_eq s))), low, high, others, rfl⟩

/-! ## HL stored and loaded at an address, A at a pair (R149 to R152) -/

theorem exec_lhld (a16 : Word) (s : State) :
    exec (.lhld a16) s = .next (advance 3 (writePair .hl (readMem16 a16 s) s)) := rfl

theorem exec_shld (a16 : Word) (s : State) :
    exec (.shld a16) s = .next (advance 3 (writeMem16 a16 (combine s.h s.l) s)) := rfl

/-- Settles O38: the pair loaded from its two bytes, stored to them, and A by the address in a pair. -/
theorem indirectAndPairMoves : Obligations.IndirectAndPairMoves := by
  refine ⟨fun a s => ?_, fun a s => ?_, fun s => ⟨rfl, rfl, rfl, rfl⟩⟩
  · rw [exec_lhld, readMem16, writePair_combine]
    rfl
  · obtain ⟨low, high, others⟩ := writeMem16_spec a (combine s.h s.l) s
    rw [lowByte_combine] at low
    rw [highByte_combine] at high
    exact ⟨_, exec_shld a s, low, high, others, rfl⟩

end Machine

end Sys2Proof
end

