-- ==== Sys2Proof/Proofs/StateFields.lean ====
section
/-! The register file and the pair views by the fields of the state (10_state.md section 2), and the control instructions
(47_control.md). -/

namespace Sys2Proof

namespace Machine

/-- A write of a register changes no field but the seven registers. -/
theorem exists_writeReg_eq (r : Reg) (v : Byte) (s : State) :
    ∃ a b c d e h l, writeReg r v s = { s with a := a, b := b, c := c, d := d, e := e, h := h, l := l } := by
  cases r <;> exact ⟨_, _, _, _, _, _, _, rfl⟩

/-- Settles O7: the names by their fields, the read after the write, and the fields that a write leaves. -/
theorem registerWriteReads : Obligations.RegisterWriteReads :=
  ⟨fun _ => ⟨rfl, rfl, rfl, rfl, rfl, rfl, rfl⟩,
    fun r q v s => ⟨readReg_writeReg q r v s, exists_writeReg_eq r v s⟩⟩

/-- Settles O8: pairing by its arithmetic, the views and writes by the fields, and the read after the write. -/
theorem pairViewsAndWrites : Obligations.PairViewsAndWrites :=
  ⟨fun hi lo => ⟨combine_toNat hi lo, highByte_combine hi lo, lowByte_combine hi lo⟩,
    fun _ => ⟨rfl, rfl, rfl⟩, fun _ _ => ⟨rfl, rfl, rfl⟩, readPair_writePair, rfl, rfl,
    fun _ => ⟨rfl, rfl, rfl, rfl⟩, fun _ _ => ⟨rfl, rfl, rfl, rfl⟩⟩

theorem exec_nop (s : State) : exec .nop s = .next (advance 1 s) := rfl

theorem exec_outPort (port : Byte) (s : State) : exec (.outPort port) s = .next (advance 2 s) := rfl

/-- Settles O59: each by its meaning, field by field. -/
theorem controlAndInputOutput : Obligations.ControlAndInputOutput := fun s port =>
  ⟨exec_ei s, exec_di s, exec_nop s, exec_outPort port s, exec_hlt s, exec_inPort port s⟩

end Machine

end Sys2Proof
end
